-- ==== Sys2Proof/Word.lean ====
section
/-! DEFINITION. The bit-vector words the part's lines and counters carry. -/

namespace Sys2Proof

/-- One character of the control line or one byte of the Video Input Link. -/
abbrev Byte := BitVec 8

/-- The 32-bit pass number of R55; it wraps to 0 after 4,294,967,295 (R56). -/
abbrev PassNumber := BitVec 32

end Sys2Proof
end

