-- ==== Sys2Proof/Syntax.lean ====
section
/-! DEFINITION. The commands the part takes: one constructor per row of spec/opcode_table.json, in the table's order. -/

namespace Sys2Proof

/-- What a module answers to a gap test (R79, step 3). -/
inductive TestAnswer where
  | ok
  | opened
  | shorted
  deriving DecidableEq, Repr

/-- A gap test, as an answer to it names it: the die, and the number of the gap it was sent in.  R79 discards an answer
whose gap has ended and does not say by what the gap is told: the number is the model's (log entry 30). -/
structure GapTest where
  die : Nat
  gapNumber : Nat
  deriving DecidableEq, Repr

/-- The 36 steps of the table.  The 26 steps from `unknownKind` to `readCounters` are the hand-on of the message
at the head of the message queue (R178); their operands travel in that message's payload. -/
inductive Instr where
  /-- POWER_ON (R15). -/
  | powerOn
  /-- CONTROL_CHARACTER (R175): the 8 bits received, and whether the stop bit was there. -/
  | controlCharacter (ch : Byte) (stopBit : Bool)
  /-- REPLY_SENT (R179). -/
  | replySent
  /-- UNKNOWN_KIND (R180). -/
  | unknownKind
  /-- IDENTIFY (R186). -/
  | identify
  /-- GET_STATUS (R185). -/
  | getStatus
  /-- SET_LAYOUT (R9 to R13). -/
  | setLayout
  /-- GET_LAYOUT (R14). -/
  | getLayout
  /-- SET_PARAMS (R183). -/
  | setParams
  /-- GET_PARAMS (R184). -/
  | getParams
  /-- SURVEY (R91, R92). -/
  | survey
  /-- RETEST (R91, R96). -/
  | retest
  /-- HALT (R98). -/
  | halt
  /-- PIN (R121, R122). -/
  | pin
  /-- UNPIN (R123). -/
  | unpin
  /-- RESTORE (R124). -/
  | restore
  /-- READ_MAP (R125). -/
  | readMap
  /-- READ_TRANSITIONS (R128). -/
  | readTransitions
  /-- READ_PLAN (R155). -/
  | readPlan
  /-- ARM_CAPTURE (R160, R161). -/
  | armCapture
  /-- DISARM (R169). -/
  | disarm
  /-- READ_CAPTURE (R170). -/
  | readCapture
  /-- RELEASE_HOLD (R168). -/
  | releaseHold
  /-- STANDBY (R63). -/
  | standby
  /-- WAKE (R60). -/
  | wake
  /-- RESTART (R187). -/
  | restart
  /-- READ_EVENTS (R196). -/
  | readEvents
  /-- SET_MASK (R197). -/
  | setMask
  /-- READ_COUNTERS (R200). -/
  | readCounters
  /-- LINK_BYTE (R17). -/
  | linkByte (b : Byte)
  /-- LOSS_OF_SIGNAL (R32). -/
  | lossOfSignal
  /-- LIGHT_ROW (R66). -/
  | lightRow
  /-- PASS_END (R56). -/
  | passEnd
  /-- GAP_END (R79). -/
  | gapEnd
  /-- GAP_TEST_ANSWER (R85): the test the answer is for, its result and the module's HOT flag. -/
  | gapTestAnswer (test : GapTest) (result : TestAnswer) (hot : Bool)
  /-- LIVE_SHORT_REPORT (R71): the die a chain port reports shorted. -/
  | liveShortReport (die : Nat)
  deriving DecidableEq, Repr

end Sys2Proof
end

