-- ==== Sys2Proof/Decode.lean ====
section
/-! DEFINITION. The command a word of opcode_table.json's bits spells.  No row of that table gives bits. -/

namespace Sys2Proof

/-- Every row of spec/opcode_table.json has an empty "fields" list and no fixed bits: the steps are events on the
part's lines, not words.  So no word spells a command, whatever its length (log entry 17). -/
def decodeTableWord (_nbits _w : Nat) : Option Instr := none

end Sys2Proof
end

