-- ==== Sys2Proof/Machine/State.lean ====
section
/-! DEFINITION. The state of the W3260, block by block (00_scope.md 0.3), as plain data, and its value after power-on. -/

namespace Sys2Proof.Machine

/-! ## Sparse tables -/

/-- A table keyed by a natural number, as entries in strictly ascending key order.  A key that is not listed holds
the table's default (log entry 8). -/
abbrev Table (α : Type) := List (Nat × α)

/-- A set of indices in ascending order. -/
abbrev IndexSet := Table Unit

/-! ## Layout (Chapter 1) -/

/-- The layout state of R8. -/
inductive LayoutStatus where
  | unset
  | set
  deriving DecidableEq, Repr

/-- The die type of a slot (R1). -/
inductive DieType where
  | dual
  | single
  deriving DecidableEq, Repr

/-- One slot of the Layout Record (R8). -/
structure SlotLayout where
  fitted : Bool
  dieType : DieType
  trim : Nat
  deriving DecidableEq, Repr

/-- A VACANT slot as R11 stores it. -/
def SlotLayout.vacant : SlotLayout := { fitted := false, dieType := .dual, trim := 256 }

/-- The Layout Record of R8. -/
structure LayoutRecord where
  mc : Nat
  mr : Nat
  slots : Vector SlotLayout 8
  passRate : Nat
  deriving DecidableEq, Repr

/-- The layout state and the record beside it (R8). -/
structure Layout where
  status : LayoutStatus
  record : LayoutRecord
  deriving DecidableEq, Repr

/-! ## Input Receiver (Chapter 2) -/

/-- The receiver states of R18. -/
inductive RxState where
  | hunt
  | sync
  | header
  | rows
  | discard
  | gap
  deriving DecidableEq, Repr

/-- The frame mode of R18. -/
inductive FrameMode where
  | written
  | blank
  deriving DecidableEq, Repr

/-- The place within the current row block (R18). -/
inductive BlockPosition where
  | awaitingIndex
  | inData (received : Nat)
  | awaitingCheck
  deriving DecidableEq, Repr

/-- The items of R18.  `group` is the model's own: the bytes of the five-byte group not yet complete (R26, log
entry 11). -/
structure Receiver where
  state : RxState
  escape : Bool
  firstFrame : Bool
  lastSeq : BitVec 16
  header : List Byte
  mode : FrameMode
  position : BlockPosition
  blockRow : Byte
  blockSum : Byte
  rowsDone : Nat
  group : List Byte
  deriving DecidableEq, Repr

/-- The receiver after power-on (R18). -/
def Receiver.powerOn : Receiver :=
  { state := .hunt, escape := false, firstFrame := true, lastSeq := 0, header := [], mode := .written,
    position := .awaitingIndex, blockRow := 0, blockSum := 0, rowsDone := 0, group := [] }

/-! ## Row Store (Chapter 3) -/

/-- The incoming state of a row (R38). -/
inductive Incoming where
  | none
  | filling
  | good
  | bad
  deriving DecidableEq, Repr

/-- The pending mark of a row (R41). -/
inductive RowPending where
  | none
  | content
  | black
  deriving DecidableEq, Repr

/-- One entry of the Row Slot Table (R38) with the two row slots (R39).  A slot lists its values other than 0. -/
structure Row where
  display : Fin 2
  incoming : Incoming
  pend : RowPending
  held : Nat
  blanked : Bool
  slot0 : Table Nat
  slot1 : Table Nat
  deriving DecidableEq, Repr

/-- A row as R52 and R54 set it: both slots 0, display slot 0, nothing incoming, pending, held or blanked. -/
def Row.black : Row :=
  { display := 0, incoming := .none, pend := .none, held := 0, blanked := false, slot0 := [], slot1 := [] }

/-! ## Scan Engine (Chapter 4) -/

/-- The display states of R55. -/
inductive Display where
  | standby
  | waking
  | active
  deriving DecidableEq, Repr

/-- "Standby waiting" of R55. -/
inductive StandbyWaiting where
  | none
  | requested
  | requestedOwed
  deriving DecidableEq, Repr

/-- The period phase of R55. -/
inductive Phase where
  | none
  | pass
  | gap
  deriving DecidableEq, Repr

/-- A channel's select (R59, R132). -/
inductive Select where
  | a
  | b
  | off
  deriving DecidableEq, Repr

/-- The die of a channel that is lit. -/
inductive DieName where
  | a
  | b
  deriving DecidableEq, Repr

/-- The directions of 0.6, in the order LEFT, UP, RIGHT, DOWN. -/
inductive Direction where
  | left
  | up
  | right
  | down
  deriving DecidableEq, Repr

/-- A Boost Table entry of one donor: at most one boost in each direction, given as its share (R59, R133). -/
structure BoostEntry where
  left : Option Nat
  up : Option Nat
  right : Option Nat
  down : Option Nat
  deriving DecidableEq, Repr

/-- An entry with no boost; no table holds it. -/
def BoostEntry.empty : BoostEntry := { left := .none, up := .none, right := .none, down := .none }

/-- What a chain port sends for one channel (R70). -/
structure Drive where
  channel : Nat
  value : Nat
  lit : Option DieName
  deriving DecidableEq, Repr

/-- The items of R55.  `rowsLit` is the model's own: how many rows of the pass have been lit (log entry 10).
`ports` is what the eight chain ports send for the row being lit (R70, log entry 9). -/
structure Scan where
  display : Display
  standby : StandbyWaiting
  wakingLeft : Nat
  passNumber : PassNumber
  phase : Phase
  clip : Bool
  liveSelect : Table Select
  liveBoost : Table BoostEntry
  rowsLit : Nat
  ports : Vector (List Drive) 8
  deriving DecidableEq, Repr

/-- The engine after power-on (R55, R77). -/
def Scan.powerOn : Scan :=
  { display := .standby, standby := .none, wakingLeft := 0, passNumber := 0, phase := .none, clip := false,
    liveSelect := [], liveBoost := [], rowsLit := 0, ports := Vector.replicate 8 [] }

/-! ## Sense Unit (Chapter 5) -/

/-- The module states of R86. -/
inductive ModuleState where
  | vacant
  | online
  | hot
  | dark
  deriving DecidableEq, Repr

/-- The per-slot items of R78. -/
structure ModuleItem where
  state : ModuleState
  settle : Nat
  noAnswer : Nat
  probeCursor : Option Nat
  deriving DecidableEq, Repr

/-- A slot's items after power-on (R78). -/
def ModuleItem.vacant : ModuleItem := { state := .vacant, settle := 0, noAnswer := 0, probeCursor := .none }

/-- The purposes of a gap-list entry (R78). -/
inductive Purpose where
  | probe
  | dueTest
  | survey
  | patrol
  deriving DecidableEq, Repr

/-- A gap-list entry (R78).  `serves` is the survey mark of R93 and R94: set while the survey that set it runs (log
entry 13). -/
structure GapEntry where
  die : Nat
  purpose : Purpose
  outstanding : Bool
  serves : Bool
  deriving DecidableEq, Repr

/-- A region with both corners included (R91, R160). -/
structure Region where
  x0 : Nat
  y0 : Nat
  x1 : Nat
  y1 : Nat
  deriving DecidableEq, Repr

/-- The kinds of long command (R100). -/
inductive LongKind where
  | none
  | survey
  | retest
  deriving DecidableEq, Repr

/-- The outcomes of a long command (R100). -/
inductive LongOutcome where
  | none
  | complete
  | halted
  | haltedByStandby
  | aborted
  deriving DecidableEq, Repr

/-- The long-command slot with the fields of R100.  Colour and die sets are sets of bits (R189). -/
structure LongSlot where
  running : Bool
  kind : LongKind
  outcome : LongOutcome
  region : Region
  colours : BitVec 3
  dice : BitVec 2
  cursor : Option Nat
  tested : Nat
  skipped : Nat
  faults : Nat
  begun : Nat
  restored : Nat
  reconfirmed : Nat
  withdrawn : Nat
  abandoned : Nat
  deriving DecidableEq, Repr

/-- The slot after power-on: IDLE, last kind NONE (R78). -/
def LongSlot.idle : LongSlot :=
  { running := false, kind := .none, outcome := .none, region := { x0 := 0, y0 := 0, x1 := 0, y1 := 0 }, colours := 0,
    dice := 0, cursor := .none, tested := 0, skipped := 0, faults := 0, begun := 0, restored := 0, reconfirmed := 0,
    withdrawn := 0, abandoned := 0 }

/-- The items of R78.  `requests` is an output: the dies named by the test requests sent on each chain port in the gap in
progress, in the order they were sent (R79 step 2, log entry 29).  `gapNumber` is the number of the gap whose start was handed
to the unit last, by which an answer's gap is told (R79, log entry 30). -/
structure Sense where
  modules : Vector ModuleItem 8
  probeTurn : Option (Fin 8)
  servicePos : Option Nat
  patrol : Nat
  gap : List GapEntry
  requests : Vector (List Nat) 8
  gapNumber : Nat
  long : LongSlot
  deriving DecidableEq, Repr

/-- The Sense Unit after power-on (R78). -/
def Sense.powerOn : Sense :=
  { modules := Vector.replicate 8 ModuleItem.vacant, probeTurn := .none, servicePos := .none, patrol := 0, gap := [],
    requests := Vector.replicate 8 [], gapNumber := 0, long := LongSlot.idle }

/-! ## Defect Map (Chapter 6) -/

/-- The record states of R104. -/
inductive RecordState where
  | suspect
  | confirmed
  | retest
  | pinnedDead
  | pinnedGood
  deriving DecidableEq, Repr

/-- The faults of R104. -/
inductive DieFault where
  | none
  | opened
  | shorted
  deriving DecidableEq, Repr

/-- The sources of R104. -/
inductive RecordSource where
  | sensed
  | loaded
  | hostPin
  deriving DecidableEq, Repr

/-- A defect record without its die, which is its key in the map (R104). -/
structure DefectRecord where
  state : RecordState
  fault : DieFault
  hits : Nat
  passes : Nat
  firstPass : PassNumber
  statePass : PassNumber
  source : RecordSource
  deriving DecidableEq, Repr

/-- The transition kinds of R126, in the order of their codes (R189). -/
inductive TransitionKind where
  | newSuspect
  | confirmed
  | transient
  | evicted
  | retestBegun
  | reconfirmed
  | retestAbandoned
  | restored
  | pinned
  | unpinned
  | loaded
  deriving DecidableEq, Repr

/-- An entry of the Transition Queue (R126). -/
structure Transition where
  kind : TransitionKind
  die : Nat
  fault : DieFault
  pass : PassNumber
  deriving DecidableEq, Repr

/-- The records, keyed by die (R104), and the Transition Queue, oldest first (R127). -/
structure DefectMap where
  records : Table DefectRecord
  queue : List Transition
  deriving DecidableEq, Repr

/-! ## Repair Planner (Chapter 7) -/

/-- The items of R132. -/
structure Plan where
  select : Table Select
  boost : Table BoostEntry
  edited : IndexSet
  shortfall : IndexSet
  deferred : IndexSet
  deriving DecidableEq, Repr

/-- The plan after power-on and after an accepted layout (R132, R157). -/
def Plan.clear : Plan := { select := [], boost := [], edited := [], shortfall := [], deferred := [] }

/-! ## Capture Unit (Chapter 8) -/

/-- The capture states of R159. -/
inductive CaptureState where
  | disarmed
  | armed
  | fired
  deriving DecidableEq, Repr

/-- The combines of R159. -/
inductive Combine where
  | m1
  | m2
  | both
  | either
  deriving DecidableEq, Repr

/-- The place matcher M2 when it is given (R159, R160). -/
structure PlaceMatcher where
  region : Region
  colours : BitVec 3
  deriving DecidableEq, Repr

/-- The arming of R159.  `kinds` is M1, off when it is empty (R160); `place` is M2, off when it is absent. -/
structure Arming where
  kinds : BitVec 11
  place : Option PlaceMatcher
  combine : Combine
  holdMask : BitVec 8
  autoRearm : Bool
  deriving DecidableEq, Repr

/-- The arming after power-on and RESTART (R159, R172). -/
def Arming.off : Arming := { kinds := 0, place := .none, combine := .m1, holdMask := 0, autoRearm := false }

/-- The snapshot of R164. -/
structure Snapshot where
  transition : Transition
  record : Option DefectRecord
  pendingSelect : Select
  liveSelect : Select
  liveBoost : BoostEntry
  moduleState : ModuleState
  settle : Nat
  passNumber : PassNumber
  deriving DecidableEq, Repr

/-- The items of R159. -/
structure Capture where
  state : CaptureState
  arming : Arming
  snapshot : Option Snapshot
  held : BitVec 8
  deriving DecidableEq, Repr

/-- The Capture Unit after power-on (R159). -/
def Capture.powerOn : Capture := { state := .disarmed, arming := Arming.off, snapshot := .none, held := 0 }

/-! ## Control Port (Chapter 9) -/

/-- The framing states of R174. -/
inductive Framing where
  | idle
  | assembling
  deriving DecidableEq, Repr

/-- A complete message without its check (R176). -/
structure Message where
  kind : Byte
  tag : Byte
  payload : List Byte
  deriving DecidableEq, Repr

/-- A formed reply without its check (R179).  The first payload byte is the status code. -/
structure Reply where
  kind : Byte
  tag : Byte
  payload : List Byte
  deriving DecidableEq, Repr

/-- The items of R174 but for the parameters.  The message in hand is the head of `queue` while `inHand` is set.
`lineOut` is the model's own: the characters of the reply last sent (R179, log entry 12). -/
structure ControlPort where
  framing : Framing
  escape : Bool
  content : List Byte
  queue : List Message
  inHand : Bool
  replies : List Reply
  lineOut : List Byte
  deriving DecidableEq, Repr

/-- The port after power-on (R174). -/
def ControlPort.powerOn : ControlPort :=
  { framing := .idle, escape := false, content := [], queue := [], inHand := false, replies := [], lineOut := [] }

/-- The parameter set of R182: window length W, hits C, fraction F, budget B, stale limit L and the three enables. -/
structure Params where
  w : Nat
  c : Nat
  f : Nat
  b : Nat
  l : Nat
  wakeOnLock : Bool
  wakeOnFlag : Bool
  autoStandby : Bool
  deriving DecidableEq, Repr

/-- The defaults of R182. -/
def Params.defaults : Params :=
  { w := 5, c := 3, f := 75, b := 4, l := 3840, wakeOnLock := false, wakeOnFlag := false, autoStandby := false }

/-! ## Event Unit (Chapter 10) -/

/-- The events of R193, in bit order. -/
inductive Event where
  | confirmed
  | restored
  | longDone
  | transitions
  | woken
  | lost
  | uncovered
  | mapFull
  | boostFull
  | moduleDark
  | moduleHot
  | staleRow
  | inputLost
  | captureFired
  | queueOverflow
  deriving DecidableEq, Repr

/-- The counters of R198, in code order. -/
inductive Counter where
  | framesClosed
  | framesCut
  | framesGeometry
  | framesIgnored
  | rowsBad
  | rowsSuperseded
  | seqGaps
  | symbolErrors
  | rowsBlanked
  | clipPasses
  | tests
  | patrolCycles
  | hotDiscards
  | transients
  | confirmations
  | evictions
  | mapFullDrops
  | boostDrops
  | pinnedShorts
  | transitionOverflow
  | captureOverwrites
  | ctlBadFrame
  | ctlOverrun
  deriving DecidableEq, Repr

/-- The items of R192.  In `mask` a set bit means masked (R196). -/
structure EventUnit where
  bits : BitVec 15
  mask : BitVec 15
  attention : Bool
  counters : Vector (BitVec 16) 23
  overflow : BitVec 23
  deriving DecidableEq, Repr

/-- The Event Unit after power-on: the five ROUTINE events masked, the ten ALARM events unmasked (R192, R193). -/
def EventUnit.powerOn : EventUnit :=
  { bits := 0, mask := 0b11111#15, attention := false, counters := Vector.replicate 23 0, overflow := 0 }

/-! ## The whole part -/

/-- The state of the W3260: the state of its blocks, and the queue of the commands that wait to be taken. -/
structure State where
  pending : List Instr
  layout : Layout
  input : Receiver
  store : List Row
  scan : Scan
  sense : Sense
  map : DefectMap
  plan : Plan
  capture : Capture
  control : ControlPort
  params : Params
  events : EventUnit
  deriving DecidableEq, Repr

/-- Reasons a step stops the part.  There are none: the manual lets no command stop the part (log entry 18). -/
inductive Fault
  deriving DecidableEq, Repr

/-- Reasons a command has no meaning in the model. -/
inductive Refusal where
  /-- Raised by an arm of `exec` whose command has no meaning yet.  No arm raises it.  Safe. -/
  | notModelled (mnemonic : String)
  deriving DecidableEq, Repr

/-- The layout after power-on: UNSET, with the defaults of R8 (R15). -/
def Layout.powerOn : Layout :=
  { status := .unset,
    record := { mc := 1, mr := 1, slots := Vector.replicate 8 SlotLayout.vacant, passRate := 1920 } }

/-- The part after power-on: every item at the power-on value its chapter gives (R15, R18, R51, R55, R78, R131, R132,
R159, R174, R182, R192), and no command waiting. -/
def State.reset : State :=
  { pending := [], layout := Layout.powerOn, input := Receiver.powerOn, store := [], scan := Scan.powerOn,
    sense := Sense.powerOn, map := { records := [], queue := [] }, plan := Plan.clear, capture := Capture.powerOn,
    control := ControlPort.powerOn, params := Params.defaults, events := EventUnit.powerOn }

/-! ## Replacing one block -/

/-- `s` with the waiting commands replaced. -/
def State.setPending (s : State) (x : List Instr) : State := { s with pending := x }

/-- `s` with the layout replaced. -/
def State.setLayout (s : State) (x : Layout) : State := { s with layout := x }

/-- `s` with the receiver replaced. -/
def State.setInput (s : State) (x : Receiver) : State := { s with input := x }

/-- `s` with the Row Store replaced. -/
def State.setStore (s : State) (x : List Row) : State := { s with store := x }

/-- `s` with the Scan Engine's items replaced. -/
def State.setScan (s : State) (x : Scan) : State := { s with scan := x }

/-- `s` with the Sense Unit's items replaced. -/
def State.setSense (s : State) (x : Sense) : State := { s with sense := x }

/-- `s` with the Defect Map replaced. -/
def State.setMap (s : State) (x : DefectMap) : State := { s with map := x }

/-- `s` with the Pending Plan replaced. -/
def State.setPlan (s : State) (x : Plan) : State := { s with plan := x }

/-- `s` with the Capture Unit's items replaced. -/
def State.setCapture (s : State) (x : Capture) : State := { s with capture := x }

/-- `s` with the Control Port's items replaced. -/
def State.setControl (s : State) (x : ControlPort) : State := { s with control := x }

/-- `s` with the parameter set replaced. -/
def State.setParams (s : State) (x : Params) : State := { s with params := x }

/-- `s` with the Event Unit's items replaced. -/
def State.setEvents (s : State) (x : EventUnit) : State := { s with events := x }

end Sys2Proof.Machine
end

