-- ==== Sys2Proof/Machine/Flags.lean ====
section
/-! DEFINITION. The Event Unit: event bits, the attention line, counters and their overflow flags (Chapter 10). -/

namespace Sys2Proof.Machine

/-- The bit an event occupies (R193). -/
def Event.bit : Event → Nat
  | .confirmed => 0
  | .restored => 1
  | .longDone => 2
  | .transitions => 3
  | .woken => 4
  | .lost => 5
  | .uncovered => 6
  | .mapFull => 7
  | .boostFull => 8
  | .moduleDark => 9
  | .moduleHot => 10
  | .staleRow => 11
  | .inputLost => 12
  | .captureFired => 13
  | .queueOverflow => 14

/-- The code of a counter (R198). -/
def Counter.code : Counter → Fin 23
  | .framesClosed => 0
  | .framesCut => 1
  | .framesGeometry => 2
  | .framesIgnored => 3
  | .rowsBad => 4
  | .rowsSuperseded => 5
  | .seqGaps => 6
  | .symbolErrors => 7
  | .rowsBlanked => 8
  | .clipPasses => 9
  | .tests => 10
  | .patrolCycles => 11
  | .hotDiscards => 12
  | .transients => 13
  | .confirmations => 14
  | .evictions => 15
  | .mapFullDrops => 16
  | .boostDrops => 17
  | .pinnedShorts => 18
  | .transitionOverflow => 19
  | .captureOverwrites => 20
  | .ctlBadFrame => 21
  | .ctlOverrun => 22

/-- Whether an event is pending: its bit is set. -/
def EventUnit.pends (u : EventUnit) (e : Event) : Bool := u.bits.getLsbD e.bit

/-- The value of a counter. -/
def EventUnit.counter (u : EventUnit) (c : Counter) : BitVec 16 := u.counters[c.code]

/-- The overflow flag of a counter. -/
def EventUnit.overflowed (u : EventUnit) (c : Counter) : Bool := u.overflow.getLsbD c.code

/-- What the attention line must be: asserted when at least one set event bit is unmasked (R195). -/
def EventUnit.wanted (u : EventUnit) : Bool := u.bits &&& ~~~u.mask != 0

/-- The unit with the attention line following the bits and the mask (R195). -/
def EventUnit.follow (u : EventUnit) : EventUnit := { u with attention := u.wanted }

/-- The unit after an event is raised: its bit becomes set and the line follows (R194, R195). -/
def EventUnit.raised (u : EventUnit) (e : Event) : EventUnit :=
  EventUnit.follow { u with bits := u.bits ||| BitVec.twoPow 15 e.bit }

/-- The unit after one occurrence is counted: the counter rises by 1, and one that stood at 65535 goes to 0 and sets
its overflow flag (R199). -/
def EventUnit.counted (u : EventUnit) (c : Counter) : EventUnit :=
  { u with
    counters := u.counters.set c.code (u.counter c + 1)
    overflow := if u.counter c = 65535 then u.overflow ||| BitVec.twoPow 23 c.code else u.overflow }

/-- Raises an event (R194). -/
def raise (e : Event) (s : State) : State := s.setEvents (s.events.raised e)

/-- Counts one occurrence (R199). -/
def count (c : Counter) (s : State) : State := s.setEvents (s.events.counted c)

/-- Counts `n` occurrences, each by 1 in turn (R199). -/
def countTimes (c : Counter) : Nat → State → State
  | 0, s => s
  | n + 1, s => countTimes c n (count c s)

/-- Every event bit, counter and overflow flag cleared; the mask is kept and the line follows (R187 step 5, R201). -/
def EventUnit.restarted (u : EventUnit) : EventUnit :=
  EventUnit.follow { u with bits := 0, counters := Vector.replicate 23 0, overflow := 0 }

/-- Every counter 0 and every overflow flag clear; bits, mask and line as they stand (R200). -/
def EventUnit.countersCleared (u : EventUnit) : EventUnit :=
  { u with counters := Vector.replicate 23 0, overflow := 0 }

/-- The events of `clear` have their bits cleared, and the line follows (R196). -/
def EventUnit.cleared (u : EventUnit) (clear : BitVec 15) : EventUnit :=
  EventUnit.follow { u with bits := u.bits &&& ~~~clear }

/-- The mask replaced, and the line follows (R197). -/
def EventUnit.masked (u : EventUnit) (mask : BitVec 15) : EventUnit := EventUnit.follow { u with mask := mask }

end Sys2Proof.Machine
end

