-- ==== Sys2Proof/Config.lean ====
section
/-! DEFINITION. The fixed sizes of the part (R3, R104, R127, R133, R174, R186). -/

namespace Sys2Proof

/-- Number of die indices, 0..110,591 (R3). -/
def Config.dieCount : Nat := 110592

/-- Number of channel indices, 0..55,295 (R3). -/
def Config.channelCount : Nat := 55296

/-- The Defect Map holds at most 1024 records (R104). -/
def Config.mapCapacity : Nat := 1024

/-- Each Boost Table holds at most 2048 entries (R59, R133). -/
def Config.boostCapacity : Nat := 2048

/-- The Transition Queue holds at most 64 entries (R127). -/
def Config.transitionCapacity : Nat := 64

/-- The message queue holds at most 4 messages (R177). -/
def Config.messageCapacity : Nat := 4

/-- The reply buffer holds at most 4 replies (R174, R178). -/
def Config.replyCapacity : Nat := 4

/-- The value 0xFFFFFF that stands for "no further index" (R100, R125, R155). -/
def Config.noIndex : Nat := 0xFFFFFF

end Sys2Proof
end

