-- ==== Sys2Proof/Machine/Ops.lean ====
section
/-! DEFINITION. The operations over sparse tables and index sets that every block's tables are read and written with. -/

namespace Sys2Proof.Machine

/-- The entry listed for key `k`, if any. -/
def Table.fetch {α : Type} : Table α → Nat → Option α
  | [], _ => none
  | (k', v) :: t, k => if k = k' then some v else Table.fetch t k

/-- The table with `v` listed for key `k`, in its place in the ascending order. -/
def Table.store {α : Type} : Table α → Nat → α → Table α
  | [], k, v => [(k, v)]
  | (k', v') :: t, k, v =>
    if k < k' then (k, v) :: (k', v') :: t
    else if k = k' then (k, v) :: t
    else (k', v') :: Table.store t k v

/-- The table with no entry listed for key `k`. -/
def Table.discard {α : Type} (t : Table α) (k : Nat) : Table α := t.filter (fun e => e.1 != k)

/-- The table with `v` held for key `k`, where a key that is not listed holds `d`: the default is never listed. -/
def Table.hold {α : Type} [DecidableEq α] (d : α) (t : Table α) (k : Nat) (v : α) : Table α :=
  if v = d then Table.discard t k else Table.store t k v

/-- The value held for key `k`, where a key that is not listed holds `d`. -/
def Table.value {α : Type} (d : α) (t : Table α) (k : Nat) : α := (Table.fetch t k).getD d

/-- The table with the entry of `k` replaced by `v`, or deleted where there is none. -/
def Table.assign {α : Type} (t : Table α) (k : Nat) : Option α → Table α
  | none => Table.discard t k
  | some v => Table.store t k v

/-- The canonical form: keys strictly ascending. -/
def Table.canonical {α : Type} (t : Table α) : Bool := decide (t.Pairwise (fun a b => a.1 < b.1))

/-- The keys listed, in ascending order. -/
def Table.keys {α : Type} (t : Table α) : List Nat := t.map Prod.fst

/-- Whether `k` is in the set. -/
def IndexSet.has (t : IndexSet) (k : Nat) : Bool := (Table.fetch t k).isSome

/-- The set with `k` added. -/
def IndexSet.add (t : IndexSet) (k : Nat) : IndexSet := Table.store t k ()

/-- The set with each index of `ks` added. -/
def IndexSet.addAll (t : IndexSet) (ks : List Nat) : IndexSet := ks.foldl IndexSet.add t

/-- The least index from `d` on, among the next `fuel`, that satisfies `p`. -/
def firstFrom (p : Nat → Bool) : Nat → Nat → Option Nat
  | 0, _ => none
  | fuel + 1, d => if p d then some d else firstFrom p fuel (d + 1)

/-- Eight items, one for each slot 0..7. -/
def perSlot {α : Type} (f : Fin 8 → α) : Vector α 8 := #v[f 0, f 1, f 2, f 3, f 4, f 5, f 6, f 7]

/-- The slots 0..7 in ascending order. -/
def slotList : List (Fin 8) := [0, 1, 2, 3, 4, 5, 6, 7]

/-- The directions in the order LEFT, UP, RIGHT, DOWN (0.6). -/
def directions : List Direction := [.left, .up, .right, .down]

end Sys2Proof.Machine
end

