-- ==== Sys2Proof/Machine/Geometry.lean ====
section
/-! DEFINITION. Sites, channels, dies, slots, neighbours and presence (R1 to R7). -/

namespace Sys2Proof.Machine

/-- The channel of a die (R3). -/
def dieChannel (d : Nat) : Nat := d / 2

/-- Whether a die index is of die B (R3). -/
def isDieB (d : Nat) : Bool := d % 2 == 1

/-- The colour of a channel: R 0, G 1, B 2 (R3). -/
def channelColour (n : Nat) : Nat := n % 3

/-- The x coordinate of a channel's site (R3). -/
def channelX (n : Nat) : Nat := n / 3 % 192

/-- The y coordinate of a channel's site (R3). -/
def channelY (n : Nat) : Nat := n / 3 / 192

/-- The channel of a colour at a site (R2, R3). -/
def channelAt (x y colour : Nat) : Nat := (y * 192 + x) * 3 + colour

/-- The slot of a site: (y div 48)·4 + (x div 48) (R5). -/
def slotOfSite (x y : Nat) : Fin 8 := Fin.ofNat 8 (y / 48 * 4 + x / 48)

/-- The slot of a channel. -/
def slotOfChannel (n : Nat) : Fin 8 := slotOfSite (channelX n) (channelY n)

/-- The width of the grid in sites: 48·mc, and 0 while the layout is UNSET (R2, R15). -/
def Layout.width (l : Layout) : Nat := if l.status = .set then 48 * l.record.mc else 0

/-- H, the height of the grid in rows: 48·mr, and 0 while the layout is UNSET (R2, R38). -/
def Layout.height (l : Layout) : Nat := if l.status = .set then 48 * l.record.mr else 0

/-- Whether a site lies inside the grid (R2). -/
def Layout.inGrid (l : Layout) (x y : Nat) : Bool := decide (x < l.width) && decide (y < l.height)

/-- Whether a slot is FITTED; every slot is VACANT while the layout is UNSET (R15). -/
def Layout.fitted (l : Layout) (i : Fin 8) : Bool := decide (l.status = .set) && l.record.slots[i].fitted

/-- The die type of a channel's slot. -/
def Layout.dieTypeAt (l : Layout) (n : Nat) : DieType := l.record.slots[slotOfChannel n].dieType

/-- Whether a channel index names a present channel (R7). -/
def Layout.presentChannel (l : Layout) (n : Nat) : Bool :=
  decide (n < Config.channelCount) && l.inGrid (channelX n) (channelY n) && l.fitted (slotOfChannel n)

/-- Whether a die index names a present die (R7). -/
def Layout.presentDie (l : Layout) (d : Nat) : Bool :=
  l.presentChannel (dieChannel d) && (!isDieB d || decide (l.dieTypeAt (dieChannel d) = .dual))

/-- The direction that points back. -/
def Direction.opposite : Direction → Direction
  | .left => .right
  | .up => .down
  | .right => .left
  | .down => .up

/-- The channel of the same colour at site (x, y), if that site lies inside the grid (R6). -/
def Layout.channelIf (l : Layout) (x y colour : Nat) : Option Nat :=
  if l.inGrid x y then some (channelAt x y colour) else none

/-- The neighbour of a channel in a direction; one whose coordinates fall outside the grid does not exist (R6). -/
def Layout.neighbour (l : Layout) (n : Nat) : Direction → Option Nat
  | .left => if channelX n = 0 then none else l.channelIf (channelX n - 1) (channelY n) (channelColour n)
  | .up => if channelY n = 0 then none else l.channelIf (channelX n) (channelY n - 1) (channelColour n)
  | .right => l.channelIf (channelX n + 1) (channelY n) (channelColour n)
  | .down => l.channelIf (channelX n) (channelY n + 1) (channelColour n)

/-- The neighbours of a channel that exist, in the order LEFT, UP, RIGHT, DOWN. -/
def Layout.neighbours (l : Layout) (n : Nat) : List Nat := directions.filterMap (l.neighbour n)

/-- Whether a die lies in a region with a colour set and a die set (R91). -/
def inScope (r : Region) (colours : BitVec 3) (dice : BitVec 2) (d : Nat) : Bool :=
  let n := dieChannel d
  decide (r.x0 ≤ channelX n) && decide (channelX n ≤ r.x1) && decide (r.y0 ≤ channelY n) && decide (channelY n ≤ r.y1)
    && colours.getLsbD (channelColour n) && dice.getLsbD (d % 2)

/-- The least die index in scope that is `d` or greater. -/
def nextInScope (r : Region) (colours : BitVec 3) (dice : BitVec 2) (d : Nat) : Option Nat :=
  firstFrom (inScope r colours dice) (Config.dieCount - d) d

end Sys2Proof.Machine
end

