-- ==== Sys2Proof/Machine/RowStore.lean ====
section
/-! DEFINITION. The Row Store: reading a row, pending marks, commit, stale rows and auto-standby (Chapter 3). -/

namespace Sys2Proof.Machine

/-- The row slot on display (R38). -/
def Row.shown (r : Row) : Table Nat := if r.display = 0 then r.slot0 else r.slot1

/-- The other row slot, the target of the next row block (R27, R39). -/
def Row.target (r : Row) : Table Nat := if r.display = 0 then r.slot1 else r.slot0

/-- The row with the slot on display replaced. -/
def Row.setShown (r : Row) (v : Table Nat) : Row := if r.display = 0 then { r with slot0 := v } else { r with slot1 := v }

/-- The row with the target slot replaced. -/
def Row.setTarget (r : Row) (v : Table Nat) : Row := if r.display = 0 then { r with slot1 := v } else { r with slot0 := v }

/-- Value `k` of the row as the Scan Engine reads it: 0 while blanked, else value `k` of the display slot (R40). -/
def Row.read (r : Row) (k : Nat) : Nat := if r.blanked then 0 else Table.value 0 r.shown k

/-- The value of colour `c` at site (x, y); a row that does not exist is not read (R40). -/
def State.pixel (s : State) (x y c : Nat) : Nat :=
  match s.store[y]? with
  | none => 0
  | some r => r.read (3 * x + c)

/-- Replaces row `y`'s entry. -/
def updateRow (y : Nat) (f : Row → Row) (s : State) : State := s.setStore (s.store.modify y f)

/-! ## Pass start -/

/-- A row's visit at a pass start: it takes its pending mark, or adds 1 to its held count (R42 to R44). -/
def Row.commit (r : Row) : Row :=
  match r.pend with
  | .content => { r with display := if r.display = 0 then 1 else 0, pend := .none, held := 0, blanked := false }
  | .black => { r.setShown [] with pend := .none, held := 0, blanked := false }
  | .none => { r with held := min 65535 (r.held + 1) }

/-- Whether a row that has been visited is blanked by this pass start (R45). -/
def Row.stale (l : Nat) (r : Row) : Bool := decide (l ≠ 0) && !r.blanked && decide (l ≤ r.held)

/-- The row after its check against the stale limit (R45). -/
def Row.checked (l : Nat) (r : Row) : Row := if r.stale l then { r with blanked := true } else r

/-- How many rows a pass start blanks, counted on the visited rows (R45). -/
def staleCount (l : Nat) (rows : List Row) : Nat := (rows.filter (Row.stale l)).length

/-- A standby request of the Row Store reaches the engine: one that is already waiting stays as it is (R48, R63). -/
def requestStandby (s : State) : State :=
  if s.scan.standby = .none then s.setScan { s.scan with standby := .requested } else s

/-- The Row Store's part of a pass start: commit, held counts, blanking, STALE_ROW and auto-standby (R42 to R47). -/
def storePassStart (s : State) : State :=
  let visited := s.store.map Row.commit
  let newly := staleCount s.params.l visited
  let rows := visited.map (Row.checked s.params.l)
  let s := countTimes .rowsBlanked newly (s.setStore rows)
  if newly = 0 then s
  else
    let s := raise .staleRow s
    if s.params.autoStandby ∧ rows.all Row.blanked then requestStandby s else s

/-! ## Marks set by the receiver -/

/-- A row at the close of a WRITTEN frame: GOOD takes the pending mark content, BAD has none; a row still FILLING has
become BAD; incoming returns to NONE (R30, R31). -/
def Row.closed (r : Row) : Row :=
  match r.incoming with
  | .good => { r with pend := .content, incoming := .none }
  | .filling | .bad => { r with pend := .none, incoming := .none }
  | .none => r

/-- A row at the close of a BLANK frame (R29, R30). -/
def Row.closedBlank (r : Row) : Row := { r with pend := .black }

/-- The store summary: rows, rows blanked, rows pending (R50). -/
def State.rowsPending (s : State) : Nat := (s.store.filter fun r => decide (r.pend ≠ .none)).length

/-- The number of blanked rows (R50). -/
def State.rowsBlanked (s : State) : Nat := (s.store.filter Row.blanked).length

/-- The Row Store made new: H rows, black (R52, R54). -/
def blackenStore (s : State) : State := s.setStore (List.replicate s.layout.height Row.black)

end Sys2Proof.Machine
end

