-- ==== Sys2Proof/Machine/InputFrames.lean ====
section
/-! DEFINITION. How the Input Receiver closes and cuts a frame, and returns to HUNT (R30 to R33). -/

namespace Sys2Proof.Machine

/-- The receiver goes to HUNT: first-frame mark set, no escape pending (R18, R32). -/
def toHunt (s : State) : State := s.setInput { s.input with state := .hunt, firstFrame := true, escape := false }

/-- The receiver goes to a state with no escape pending, the first-frame mark unchanged. -/
def toRx (x : RxState) (s : State) : State := s.setInput { s.input with state := x, escape := false }

/-- Every grid row's marks at the close of the frame in reception, by the frame mode (R30, R31). -/
def closeRows (s : State) : State :=
  match s.input.mode with
  | .written => s.setStore (s.store.map Row.closed)
  | .blank => s.setStore (s.store.map Row.closedBlank)

/-- An END at a block boundary closes the frame (R30). -/
def closeFrame (s : State) : State := toRx .gap (count .framesClosed (closeRows s))

/-- The rows a cut finds FILLING; there is at most one (R31). -/
def State.fillingRows (s : State) : Nat := (s.store.filter fun r => decide (r.incoming = .filling)).length

/-- The frame in reception is cut: in a WRITTEN frame a FILLING row becomes BAD and counts in ROWS_BAD; then the rows
take their marks, and FRAMES_CUT is counted once (R31). -/
def cutFrame (s : State) : State :=
  let s := if s.input.mode = .written then countTimes .rowsBad s.fillingRows s else s
  count .framesCut (closeRows s)

/-- Entry to STANDBY while the receiver is in ROWS cuts the frame and sends the receiver to DISCARD (R33). -/
def cutForStandby (s : State) : State := if s.input.state = .rows then toRx .discard (cutFrame s) else s

end Sys2Proof.Machine
end

