-- ==== Sys2Proof/Machine/Operands.lean ====
section
/-! DEFINITION. How fields travel on the control line: numbers, sets, flags, codes and the layouts of records and
entries (R189 to R191). -/

namespace Sys2Proof.Machine

/-! ## Reading a payload -/

/-- Byte `i` of a payload as a number; a payload whose length has been checked holds it (R180). -/
def byteAt (p : List Byte) (i : Nat) : Nat := (p.getD i 0).toNat

/-- The number of `width` bytes from byte `i`, least significant byte first (R189). -/
def numberAt (p : List Byte) (i : Nat) : Nat → Nat
  | 0 => 0
  | width + 1 => byteAt p i + 256 * numberAt p (i + 1) width

/-! ## Writing reply data -/

/-- A number in one byte. -/
def byteOf (n : Nat) : Byte := BitVec.ofNat 8 n

/-- A number in `width` bytes, least significant byte first (R189). -/
def bytesOf : Nat → Nat → List Byte
  | 0, _ => []
  | width + 1, n => byteOf n :: bytesOf width (n / 256)

/-- A flag: 0 for clear and 1 for set (R189). -/
def flagByte (b : Bool) : Byte := if b then 1 else 0

/-- Flags packed into a number, the first in the least significant bit (R189). -/
def packBits : List Bool → Nat
  | [] => 0
  | b :: bs => (if b then 1 else 0) + 2 * packBits bs

/-- The index field of a reply: an index, or 0xFFFFFF for none. -/
def indexBytes (i : Option Nat) : List Byte := bytesOf 3 (i.getD Config.noIndex)

/-! ## Codes of R189 -/

/-- The code of a layout state. -/
def LayoutStatus.code : LayoutStatus → Nat
  | .unset => 0
  | .set => 1

/-- The code of a die type. -/
def DieType.code : DieType → Nat
  | .dual => 0
  | .single => 1

/-- The code of a display state. -/
def Display.code : Display → Nat
  | .standby => 0
  | .waking => 1
  | .active => 2

/-- The code of a receiver state. -/
def RxState.code : RxState → Nat
  | .hunt => 0
  | .sync => 1
  | .header => 2
  | .rows => 3
  | .discard => 4
  | .gap => 5

/-- The code of a module state. -/
def ModuleState.code : ModuleState → Nat
  | .vacant => 0
  | .online => 1
  | .hot => 2
  | .dark => 3

/-- The code of a select. -/
def Select.code : Select → Nat
  | .a => 0
  | .b => 1
  | .off => 2

/-- The code of a record state. -/
def RecordState.code : RecordState → Nat
  | .suspect => 0
  | .confirmed => 1
  | .retest => 2
  | .pinnedDead => 3
  | .pinnedGood => 4

/-- The code of a fault. -/
def DieFault.code : DieFault → Nat
  | .none => 0
  | .opened => 1
  | .shorted => 2

/-- The code of a source. -/
def RecordSource.code : RecordSource → Nat
  | .sensed => 0
  | .loaded => 1
  | .hostPin => 2

/-- The code of a transition kind. -/
def TransitionKind.code : TransitionKind → Nat
  | .newSuspect => 0
  | .confirmed => 1
  | .transient => 2
  | .evicted => 3
  | .retestBegun => 4
  | .reconfirmed => 5
  | .retestAbandoned => 6
  | .restored => 7
  | .pinned => 8
  | .unpinned => 9
  | .loaded => 10

/-- The code of a long-command kind. -/
def LongKind.code : LongKind → Nat
  | .none => 0
  | .survey => 1
  | .retest => 2

/-- The code of an outcome. -/
def LongOutcome.code : LongOutcome → Nat
  | .none => 0
  | .complete => 1
  | .halted => 2
  | .haltedByStandby => 3
  | .aborted => 4

/-- The code of a capture state. -/
def CaptureState.code : CaptureState → Nat
  | .disarmed => 0
  | .armed => 1
  | .fired => 2

/-- The code of a combine. -/
def Combine.code : Combine → Nat
  | .m1 => 0
  | .m2 => 1
  | .both => 2
  | .either => 3

/-- The combine of a code; a code outside the list names none (R189). -/
def Combine.ofCode : Nat → Option Combine
  | 0 => some .m1
  | 1 => some .m2
  | 2 => some .both
  | 3 => some .either
  | _ => none

/-! ## Records, entries and boosts -/

/-- A defect record in 13 bytes (R190). -/
def recordBytes (die : Nat) (r : DefectRecord) : List Byte :=
  bytesOf 3 die ++ [byteOf (r.state.code + 8 * r.fault.code + 32 * r.source.code), byteOf (r.hits + 16 * r.passes)]
    ++ bytesOf 4 r.firstPass.toNat ++ bytesOf 4 r.statePass.toNat

/-- A transition entry in 8 bytes (R190). -/
def transitionBytes (t : Transition) : List Byte :=
  byteOf (t.kind.code + 16 * t.fault.code) :: bytesOf 3 t.die ++ bytesOf 4 t.pass.toNat

/-- The boost of an entry in a direction, as its share. -/
def BoostEntry.share (e : BoostEntry) : Direction → Option Nat
  | .left => e.left
  | .up => e.up
  | .right => e.right
  | .down => e.down

/-- The directions present in an entry, as a set (R189). -/
def directionSet (e : BoostEntry) : Byte := byteOf (packBits (directions.map fun d => (e.share d).isSome))

/-- The four shares of an entry, each carried as share − 1, and 0 for a direction not present (R191). -/
def shareBytes (e : BoostEntry) : List Byte := directions.map fun d => byteOf ((e.share d).getD 1 - 1)

/-- Both selects of a channel in one byte: pending in bits 0 and 1, live in bits 2 and 3 (R191). -/
def selectByte (pending live : Select) : Byte := byteOf (pending.code + 4 * live.code)

/-- A region in four bytes (R190). -/
def regionBytes (r : Region) : List Byte := [byteOf r.x0, byteOf r.y0, byteOf r.x1, byteOf r.y1]

/-- A region read from four bytes (R190). -/
def regionAt (p : List Byte) (i : Nat) : Region :=
  { x0 := byteAt p i, y0 := byteAt p (i + 1), x1 := byteAt p (i + 2), y1 := byteAt p (i + 3) }

/-- One slot of a Layout Record in four bytes (R190). -/
def slotLayoutBytes (l : SlotLayout) : List Byte :=
  flagByte l.fitted :: byteOf l.dieType.code :: bytesOf 2 l.trim

/-- A Layout Record in 36 bytes (R190). -/
def layoutBytes (r : LayoutRecord) : List Byte :=
  [byteOf r.mc, byteOf r.mr] ++ r.slots.toList.flatMap slotLayoutBytes ++ bytesOf 2 r.passRate

/-- The parameter set in 7 bytes (R190). -/
def paramBytes (p : Params) : List Byte :=
  [byteOf p.w, byteOf p.c, byteOf p.f, byteOf p.b] ++ bytesOf 2 p.l
    ++ [byteOf (packBits [p.wakeOnLock, p.wakeOnFlag, p.autoStandby])]

end Sys2Proof.Machine
end

