-- ==== Sys2Proof/Machine/Planner.lean ====
section
/-! DEFINITION. The Repair Planner: derived selects, recompute rounds, donors and shares, deferral under holds
(Chapter 7). -/

namespace Sys2Proof.Machine

/-! ## Standing of a die and the derived select -/

/-- Whether a record state makes its die dead (R105). -/
def RecordState.dead : RecordState → Bool
  | .confirmed | .retest | .pinnedDead => true
  | .suspect | .pinnedGood => false

/-- Whether a record is pinned (R105). -/
def RecordState.isPinned : RecordState → Bool
  | .pinnedDead | .pinnedGood => true
  | .suspect | .confirmed | .retest => false

/-- The state of a die's record, if it has one. -/
def State.recordState (s : State) (d : Nat) : Option RecordState := (Table.fetch s.map.records d).map DefectRecord.state

/-- Whether the die counts as dead; a die with no record is alive (R105). -/
def State.dieDead (s : State) (d : Nat) : Bool := ((s.recordState d).map RecordState.dead).getD false

/-- Whether the die's record is pinned. -/
def State.diePinned (s : State) (d : Nat) : Bool := ((s.recordState d).map RecordState.isPinned).getD false

/-- The derived select of a channel (R135). -/
def State.derivedSelect (s : State) (n : Nat) : Select :=
  if !s.dieDead (2 * n) then .a
  else match s.layout.dieTypeAt n with
    | .single => .off
    | .dual => if s.dieDead (2 * n + 1) then .off else .b

/-! ## The Pending Plan -/

/-- The pending select of a channel; one that is not listed is A (R132). -/
def Plan.selectOf (p : Plan) (n : Nat) : Select := Table.value .a p.select n

/-- The pending boost entry of a channel (R132). -/
def Plan.entryOf (p : Plan) (n : Nat) : Option BoostEntry := Table.fetch p.boost n

/-- Whether a channel is LOST: its pending select is OFF (R132). -/
def State.isLost (s : State) (n : Nat) : Bool := decide (s.plan.selectOf n = .off)

/-- The LOST channels in ascending order. -/
def State.lostChannels (s : State) : List Nat := s.plan.select.keys.filter s.isLost

/-- The LOST neighbours of a channel. -/
def State.lostNeighbours (s : State) (n : Nat) : List Nat := (s.layout.neighbours n).filter s.isLost

/-- Stages a pending select. -/
def setPendingSelect (n : Nat) (x : Select) (s : State) : State :=
  s.setPlan { s.plan with select := Table.hold .a s.plan.select n x }

/-- Replaces or deletes a pending boost entry. -/
def setPendingEntry (n : Nat) (e : Option BoostEntry) (s : State) : State :=
  s.setPlan { s.plan with boost := Table.assign s.plan.boost n e }

/-- Sets or clears a channel's shortfall mark. -/
def setShortfall (n : Nat) (on : Bool) (s : State) : State :=
  s.setPlan { s.plan with
    shortfall := if on then IndexSet.add s.plan.shortfall n else Table.discard s.plan.shortfall n }

/-- The channel takes the deferred mark (R150). -/
def setDeferred (n : Nat) (s : State) : State := s.setPlan { s.plan with deferred := IndexSet.add s.plan.deferred n }

/-- An entry with its boost in a direction replaced. -/
def BoostEntry.with (e : BoostEntry) (d : Direction) (x : Option Nat) : BoostEntry :=
  match d with
  | .left => { e with left := x }
  | .up => { e with up := x }
  | .right => { e with right := x }
  | .down => { e with down := x }

/-- An entry that is left with no boost is deleted (R133, R136). -/
def BoostEntry.orDeleted (e : BoostEntry) : Option BoostEntry := if e = BoostEntry.empty then none else some e

/-- Takes the boost in direction `d` out of donor `n`'s pending entry, if there is one (R136). -/
def removeBoost (n : Nat) (d : Direction) (s : State) : State :=
  match s.plan.entryOf n with
  | none => s
  | some e => setPendingEntry n (e.with d none).orDeleted s

/-- Removes the boost aimed at `n` that its neighbour in direction `d` holds (R136). -/
def removeBoostFrom (n : Nat) (s : State) (d : Direction) : State :=
  match s.layout.neighbour n d with
  | none => s
  | some m => removeBoost m d.opposite s

/-- Removes every boost aimed at channel `n` (R136). -/
def removeBoostsAt (n : Nat) (s : State) : State := directions.foldl (removeBoostFrom n) s

/-! ## Holds -/

/-- Whether a slot is held: the Capture Unit holds it and it is FITTED (R149). -/
def State.slotHeld (s : State) (i : Fin 8) : Bool := s.capture.held.getLsbD i && s.layout.fitted i

/-- Whether a channel's site lies on a held slot. -/
def State.onHeldSlot (s : State) (n : Nat) : Bool := s.slotHeld (slotOfChannel n)

/-- Whether a neighbour of the channel lies on a held slot. -/
def State.besideHeldSlot (s : State) (n : Nat) : Bool := (s.layout.neighbours n).any s.onHeldSlot

/-- Whether channel `n`, whose derived select is `want`, is frozen in phase 1: its site lies on a held slot, or the
change would take it to or from OFF and a neighbour lies on a held slot (R149, "Select change"; log entry 6). -/
def State.selectFrozen (s : State) (n : Nat) (want : Select) : Bool :=
  s.onHeldSlot n ||
    (decide (want ≠ s.plan.selectOf n) && decide (want = .off ∨ s.plan.selectOf n = .off) && s.besideHeldSlot n)

/-- Whether a recompute of LOST channel `n` is frozen (R149, "Recompute"). -/
def State.recomputeFrozen (s : State) (n : Nat) : Bool := s.onHeldSlot n || s.besideHeldSlot n

/-! ## Recomputing a lost channel -/

/-- Whether channel `m` can serve as a donor: slot FITTED, module not DARK, not LOST, slot not held (R143). -/
def State.canDonate (s : State) (m : Nat) : Bool :=
  s.layout.fitted (slotOfChannel m) && decide (s.sense.modules[slotOfChannel m].state ≠ .dark) && !s.isLost m
    && !s.onHeldSlot m

/-- The candidates of LOST channel `n`, each with its direction from `n`, in the order LEFT, UP, RIGHT, DOWN (R143). -/
def State.candidates (s : State) (n : Nat) : List (Direction × Nat) :=
  directions.filterMap fun d =>
    match s.layout.neighbour n d with
    | none => none
    | some m => if s.canDonate m then some (d, m) else none

/-- Admission of candidates to a Boost Table whose entries are `t`, when the candidates before them need `new` new
entries: the admitted candidates, and how many are refused for room (R144). -/
def admission (t : Table BoostEntry) : Nat → List (Direction × Nat) → List (Direction × Nat) × Nat
  | _, [] => ([], 0)
  | new, (d, m) :: cs =>
    if (Table.fetch t m).isSome then
      ((d, m) :: (admission t new cs).1, (admission t new cs).2)
    else if t.length + new < Config.boostCapacity then
      ((d, m) :: (admission t (new + 1) cs).1, (admission t (new + 1) cs).2)
    else ((admission t new cs).1, (admission t new cs).2 + 1)

/-- The share of each of `k` donors at fraction `f`: floor(F × 256 / (100 × k)) (R145). -/
def shareOf (f k : Nat) : Nat := f * 256 / (100 * k)

/-- The donor, which lies in direction `c.1` from the lost channel, receives a boost of `share` that points back to
it (R145). -/
def addBoost (share : Nat) (s : State) (c : Direction × Nat) : State :=
  setPendingEntry c.2 (some (((s.plan.entryOf c.2).getD BoostEntry.empty).with c.1.opposite (some share))) s

/-- Each candidate refused for room counts BOOST_DROPS and raises BOOST_FULL (R144). -/
def refuseBoosts (refused : Nat) (s : State) : State :=
  if refused = 0 then s else raise .boostFull (countTimes .boostDrops refused s)

/-- The donors of LOST channel `n` get their boosts, or UNCOVERED is raised when there is none (R145). -/
def placeBoosts (donors : List (Direction × Nat)) (s : State) : State :=
  if donors.length = 0 then raise .uncovered s
  else if shareOf s.params.f donors.length = 0 then s
  else donors.foldl (addBoost (shareOf s.params.f donors.length)) s

/-- What follows the removal when F is not 0: admission, the shortfall mark and the boosts (R144, R145). -/
def assignDonors (n : Nat) (s : State) : State :=
  let admitted := admission s.plan.boost 0 (s.candidates n)
  placeBoosts admitted.1 (setShortfall n (decide (admitted.2 ≠ 0)) (refuseBoosts admitted.2 s))

/-- The recompute of LOST channel `n` (R143 to R145). -/
def recompute (n : Nat) (s : State) : State :=
  let s := removeBoostsAt n s
  if s.params.f = 0 then setShortfall n false s else assignDonors n s

/-- A recompute in phase 2 or 3: a channel that is not LOST is passed over, and a frozen one takes the deferred mark
(R141, R142). -/
def recomputeOrDefer (s : State) (n : Nat) : State :=
  if !s.isLost n then s
  else if s.recomputeFrozen n then setDeferred n s
  else recompute n s

/-! ## Rounds -/

/-- Phase 1 for one channel: its select is derived and staged, or deferred; the second component is the recompute set
(R140). -/
def deriveOne (acc : State × IndexSet) (n : Nat) : State × IndexSet :=
  let s := acc.1
  let want := s.derivedSelect n
  if s.selectFrozen n want then (setDeferred n s, acc.2)
  else if want = s.plan.selectOf n then acc
  else if want = .off then
    let s' := setPendingEntry n none (raise .lost (setPendingSelect n .off s))
    (s', IndexSet.addAll acc.2 (n :: s'.lostNeighbours n))
  else if s.plan.selectOf n = .off then
    let s' := setShortfall n false (removeBoostsAt n (setPendingSelect n want s))
    (s', IndexSet.addAll acc.2 (s'.lostNeighbours n))
  else (setPendingSelect n want s, acc.2)

/-- Phase 3: every LOST channel that bears a shortfall mark at that moment is recomputed once (R142). -/
def phaseThree (s : State) : State := s.plan.shortfall.keys.foldl recomputeOrDefer s

/-- The channels whose pending select or entry differs between two plans, among the keys either lists. -/
def changedChannels (p q : Plan) : List Nat :=
  (p.select.keys ++ q.select.keys ++ p.boost.keys ++ q.boost.keys).filter fun n =>
    decide (p.selectOf n ≠ q.selectOf n ∨ p.entryOf n ≠ q.entryOf n)

/-- Sets the edited mark of each channel that the round left different from what it was when it began (R134). -/
def markEdited (before : Plan) (s : State) : State :=
  s.setPlan { s.plan with edited := IndexSet.addAll s.plan.edited (changedChannels before s.plan) }

/-- A recompute round, taken whole: phase 1 over the re-derive set, phase 2 over the recompute set as phase 1 leaves
it, phase 3, and the edited marks (R138 to R142, R134). -/
def takeRound (rederive : List Nat) (recomputeSet : List Nat) (s : State) : State :=
  let p1 := rederive.foldl deriveOne (s, IndexSet.addAll [] recomputeSet)
  markEdited s.plan (phaseThree (p1.2.keys.foldl recomputeOrDefer p1.1))

/-- The round of a die standing change (R139). -/
def standingRound (die : Nat) (s : State) : State := takeRound [dieChannel die] [] s

/-- Whether a channel's site lies on the module of slot `i` or is a neighbour of one of its sites (R139). -/
def Layout.onOrBeside (l : Layout) (i : Fin 8) (n : Nat) : Bool :=
  decide (slotOfChannel n = i) || (l.neighbours n).any fun m => decide (slotOfChannel m = i)

/-- The LOST channels on or beside any of the given modules. -/
def State.lostAround (s : State) (slots : List (Fin 8)) : List Nat :=
  s.lostChannels.filter fun n => slots.any fun i => s.layout.onOrBeside i n

/-- The round of a module entering or leaving DARK (R139, R148). -/
def darkRound (i : Fin 8) (s : State) : State := takeRound [] (s.lostAround [i]) s

/-- The round of a change of F (R139, R147). -/
def fractionRound (s : State) : State := takeRound [] s.lostChannels s

/-- Every deferred mark cleared. -/
def clearDeferred (s : State) : State := s.setPlan { s.plan with deferred := [] }

/-- The release round (R139, R151). -/
def releaseRound (s : State) : State := takeRound s.plan.deferred.keys s.plan.deferred.keys (clearDeferred s)

/-- The round that follows an immediate cut of channel `n` (R139, R153). -/
def cutRound (n : Nat) (s : State) : State := takeRound [n] (n :: s.lostNeighbours n) s

/-- The one round of RESTART, for the modules `slots` that RESTART took out of DARK (R139, R158). -/
def restartRound (slots : List (Fin 8)) (s : State) : State :=
  takeRound s.plan.deferred.keys (s.plan.deferred.keys ++ s.lostAround slots) (clearDeferred s)

end Sys2Proof.Machine
end

