-- ==== Sys2Proof/Machine/CaptureUnit.lean ====
section
/-! DEFINITION. The Capture Unit: matchers, the snapshot and the holds a match sets (Chapter 8). -/

namespace Sys2Proof.Machine

/-- Whether matcher M1 fits: the transition's kind is in its set (R162). -/
def Arming.kindFits (a : Arming) (t : Transition) : Bool := a.kinds.getLsbD t.kind.code

/-- Whether matcher M2 fits: the die's site lies in the region and its colour is in the colour set (R162). -/
def Arming.placeFits (a : Arming) (t : Transition) : Bool :=
  match a.place with
  | none => false
  | some m => inScope m.region m.colours 0b11#2 t.die

/-- Whether the transition matches under the combine (R162). -/
def Arming.fits (a : Arming) (t : Transition) : Bool :=
  match a.combine with
  | .m1 => a.kindFits t
  | .m2 => a.placeFits t
  | .both => a.kindFits t && a.placeFits t
  | .either => a.kindFits t || a.placeFits t

/-- The live select of a channel; one that is not listed is A (R55). -/
def Scan.selectOf (c : Scan) (n : Nat) : Select := Table.value .a c.liveSelect n

/-- The live boost entry of a channel (R55). -/
def Scan.entryOf (c : Scan) (n : Nat) : Option BoostEntry := Table.fetch c.liveBoost n

/-- The snapshot of a transition, read at the moment of the offer (R164). -/
def State.snapshotOf (s : State) (t : Transition) : Snapshot :=
  let n := dieChannel t.die
  let m := s.sense.modules[slotOfChannel n]
  { transition := t
    record := Table.fetch s.map.records t.die
    pendingSelect := s.plan.selectOf n
    liveSelect := s.scan.selectOf n
    liveBoost := (s.scan.entryOf n).getD BoostEntry.empty
    moduleState := m.state
    settle := m.settle
    passNumber := s.scan.passNumber }

/-- What a match does: snapshot, state, CAPTURE_FIRED and holds; with AUTO_REARM, replacing a stored snapshot counts
CAPTURE_OVERWRITES (R164 to R166). -/
def captureMatch (t : Transition) (s : State) : State :=
  let c := s.capture
  let s' := s.setCapture
    { c with
      snapshot := some (s.snapshotOf t)
      state := if c.arming.autoRearm then .armed else .fired
      held := c.held ||| c.arming.holdMask }
  let s' := if c.arming.autoRearm && c.snapshot.isSome then count .captureOverwrites s' else s'
  raise .captureFired s'

/-- The offer of a transition to the Capture Unit; only an ARMED unit tests it (R163). -/
def offerCapture (t : Transition) (s : State) : State :=
  if s.capture.state = .armed ∧ s.capture.arming.fits t then captureMatch t s else s

end Sys2Proof.Machine
end

