-- ==== Sys2Proof/Machine/DefectMap.lean ====
section
/-! DEFINITION. The Defect Map: transitions and their announcement, observations, windows, eviction, retests and the
Transition Queue; with the counts the long-command slot keeps of records leaving RETEST (Chapter 6, R96 to R98). -/

namespace Sys2Proof.Machine

/-! ## The long-command slot -/

/-- Replaces the long-command slot. -/
def setLong (l : LongSlot) (s : State) : State := s.setSense { s.sense with long := l }

/-- The long command ends with an outcome: the slot becomes IDLE, and the survey marks of the tests still in the gap
list no longer name a running survey (R94, R95, R97 to R99, R102). -/
def endLong (o : LongOutcome) (s : State) : State :=
  s.setSense { s.sense with
    long := { s.sense.long with running := false, outcome := o }
    gap := s.sense.gap.map fun e => { e with serves := false } }

/-- Whether some record is in state RETEST. -/
def State.anyRetest (s : State) : Bool := s.map.records.any fun e => decide (e.2.state = .retest)

/-- The slot with one more record counted as leaving RETEST by transition `k` (R97). -/
def LongSlot.counted (l : LongSlot) : TransitionKind → LongSlot
  | .reconfirmed => { l with reconfirmed := l.reconfirmed + 1 }
  | .restored => { l with restored := l.restored + 1 }
  | .pinned | .loaded => { l with withdrawn := l.withdrawn + 1 }
  | .retestAbandoned => { l with abandoned := l.abandoned + 1 }
  | .newSuspect | .confirmed | .transient | .evicted | .retestBegun | .unpinned => l

/-- The long-command slot is told that a record left RETEST by transition `k`.  When it left other than by
abandonment and none remains, the RETEST ends COMPLETE and LONG_DONE is raised (R97). -/
def retestLeft (k : TransitionKind) (s : State) : State :=
  let s := setLong (s.sense.long.counted k) s
  if k ≠ .retestAbandoned ∧ !s.anyRetest then raise .longDone (endLong .complete s) else s

/-! ## Announcing a transition -/

/-- The events and counters that a kind raises besides TRANSITIONS and the overflow (R126). -/
def kindEffects (k : TransitionKind) (s : State) : State :=
  match k with
  | .confirmed | .reconfirmed => count .confirmations (raise .confirmed s)
  | .transient => count .transients s
  | .evicted => count .evictions s
  | .restored => raise .restored s
  | .newSuspect | .retestBegun | .retestAbandoned | .pinned | .unpinned | .loaded => s

/-- Appends an entry to the Transition Queue; a full queue first loses its oldest entry, and an entry appended to an
empty queue raises TRANSITIONS (R127). -/
def appendTransition (t : Transition) (s : State) : State :=
  let q := s.map.queue
  if q.length < Config.transitionCapacity then
    let s' := s.setMap { s.map with queue := q ++ [t] }
    if q = [] then raise .transitions s' else s'
  else
    count .transitionOverflow (raise .queueOverflow (s.setMap { s.map with queue := q.drop 1 ++ [t] }))

/-- Announces a transition already made in the map: logged, offered to capture, then told to the planner when the
die's standing changed, and to the long-command slot when the record left RETEST (R108). -/
def announce (k : TransitionKind) (die : Nat) (fault : DieFault) (changed leftRetest : Bool) (s : State) : State :=
  let t : Transition := { kind := k, die := die, fault := fault, pass := s.scan.passNumber }
  let s := offerCapture t (kindEffects k (appendTransition t s))
  let s := if changed then standingRound die s else s
  if leftRetest then retestLeft k s else s

/-! ## Records -/

/-- Stores a record. -/
def putRecord (die : Nat) (r : DefectRecord) (s : State) : State :=
  s.setMap { s.map with records := Table.store s.map.records die r }

/-- Removes a record. -/
def dropRecord (die : Nat) (s : State) : State := s.setMap { s.map with records := Table.discard s.map.records die }

/-- The record moved to a state in which it has no window open: hits and passes 0, state pass the current pass (R106). -/
def DefectRecord.enter (r : DefectRecord) (x : RecordState) (now : PassNumber) : DefectRecord :=
  { r with state := x, hits := 0, passes := 0, statePass := now }

/-- The record becomes CONFIRMED by a window or a SHORT on a SUSPECT record (R111, R112). -/
def confirmRecord (die : Nat) (r : DefectRecord) (s : State) : State :=
  announce .confirmed die r.fault true false (putRecord die (r.enter .confirmed s.scan.passNumber) s)

/-! ## Making room -/

/-- The age of a record: (current pass number − first pass) mod 4,294,967,296 (R119). -/
def recordAge (now : PassNumber) (r : DefectRecord) : Nat := (now - r.firstPass).toNat

/-- Whether SUSPECT record `r` is evicted in preference to SUSPECT record `q`, which has the lower die index: fewer
hits, or as many hits and a greater age (R119). -/
def evictsBefore (now : PassNumber) (r q : DefectRecord) : Bool :=
  decide (r.hits < q.hits) || (decide (r.hits = q.hits) && decide (recordAge now q < recordAge now r))

/-- The record to evict from the entries, taken in ascending die index (R119). -/
def evictee (now : PassNumber) : Table DefectRecord → Option (Nat × DefectRecord)
  | [] => none
  | e :: t =>
    if e.2.state = .suspect then
      match evictee now t with
      | none => some e
      | some f => if evictsBefore now f.2 e.2 then some f else some e
    else evictee now t

/-- Room for one record more: nothing to do below 1024 records; in a full map a SUSPECT record is evicted, and with
none to evict there is no room (R119, R120). -/
def makeRoom (s : State) : Option State :=
  if s.map.records.length < Config.mapCapacity then some s
  else match evictee s.scan.passNumber s.map.records with
    | none => none
    | some e => some (announce .evicted e.1 e.2.fault false false (dropRecord e.1 s))

/-! ## Observations -/

/-- The judgment of a SUSPECT window after a counted test (R111).  hits + (W − passes) < C is compared without
subtraction. -/
def judgeSuspect (die : Nat) (r : DefectRecord) (s : State) : State :=
  if s.params.c ≤ r.hits then confirmRecord die r s
  else if r.hits + s.params.w < s.params.c + r.passes then
    announce .transient die r.fault false false (dropRecord die s)
  else putRecord die r s

/-- The judgment of a RETEST record after an observation; `short` when that was SHORT (R117). -/
def judgeRetest (die : Nat) (r : DefectRecord) (short : Bool) (s : State) : State :=
  if s.params.c ≤ r.hits ∨ short then
    announce .reconfirmed die r.fault false true (putRecord die (r.enter .confirmed s.scan.passNumber) s)
  else if r.hits + s.params.w < s.params.c + r.passes then
    announce .restored die r.fault true true (dropRecord die s)
  else putRecord die r s

/-- The record with one test counted: OK adds to passes, OPEN adds to passes and hits and sets the fault (R110, R116). -/
def DefectRecord.tested (r : DefectRecord) (opened : Bool) : DefectRecord :=
  if opened then { r with hits := r.hits + 1, passes := r.passes + 1, fault := .opened }
  else { r with passes := r.passes + 1 }

/-- A fresh record of source SENSED. -/
def sensedRecord (x : RecordState) (f : DieFault) (n : Nat) (now : PassNumber) : DefectRecord :=
  { state := x, fault := f, hits := n, passes := n, firstPass := now, statePass := now, source := .sensed }

/-- An observation on a die with no record (R109), after the room rules of 6.5; without room it is dropped (R120). -/
def observeNew (die : Nat) (o : TestAnswer) (s : State) : State :=
  match o with
  | .ok => s
  | .opened =>
    match makeRoom s with
    | none => raise .mapFull (count .mapFullDrops s)
    | some s' =>
      let r := sensedRecord .suspect .opened 1 s'.scan.passNumber
      judgeSuspect die r (announce .newSuspect die .opened false false (putRecord die r s'))
  | .shorted =>
    match makeRoom s with
    | none => raise .mapFull (count .mapFullDrops s)
    | some s' =>
      announce .confirmed die .shorted true false
        (announce .newSuspect die .shorted false false
          (putRecord die (sensedRecord .confirmed .shorted 0 s'.scan.passNumber) s'))

/-- An observation on a SUSPECT record (R110 to R112). -/
def observeSuspect (die : Nat) (r : DefectRecord) (o : TestAnswer) (s : State) : State :=
  match o with
  | .ok => judgeSuspect die (r.tested false) s
  | .opened => judgeSuspect die (r.tested true) s
  | .shorted => confirmRecord die { r with fault := .shorted } s

/-- An observation on a RETEST record (R116, R117). -/
def observeRetest (die : Nat) (r : DefectRecord) (o : TestAnswer) (s : State) : State :=
  match o with
  | .ok => judgeRetest die (r.tested false) false s
  | .opened => judgeRetest die (r.tested true) false s
  | .shorted => judgeRetest die { r with fault := .shorted } true s

/-- An observation, taken against the die's record as it stands (R107). -/
def observe (die : Nat) (o : TestAnswer) (s : State) : State :=
  match Table.fetch s.map.records die with
  | none => observeNew die o s
  | some r =>
    match r.state with
    | .suspect => observeSuspect die r o s
    | .retest => observeRetest die r o s
    | .confirmed | .pinnedDead | .pinnedGood => s

/-! ## Abandoning a retest -/

/-- The dies of the records in state RETEST, in ascending order. -/
def State.retestDies (s : State) : List Nat :=
  Table.keys (s.map.records.filter fun e => decide (e.2.state = .retest))

/-- One record returns from RETEST to CONFIRMED with RETEST_ABANDONED (R118). -/
def abandonOne (s : State) (die : Nat) : State :=
  match Table.fetch s.map.records die with
  | none => s
  | some r => announce .retestAbandoned die r.fault false true (putRecord die (r.enter .confirmed s.scan.passNumber) s)

/-- Every record in state RETEST returns to CONFIRMED, in ascending die index (R118). -/
def abandonRetests (s : State) : State := s.retestDies.foldl abandonOne s

/-- A running long command is ended with an outcome; a RETEST first gives its records back (R98, R99, R102). -/
def stopLong (o : LongOutcome) (s : State) : State :=
  endLong o (if s.sense.long.kind = .retest then abandonRetests s else s)

end Sys2Proof.Machine
end

