-- ==== Sys2Proof/Machine/SenseUnit.lean ====
section
/-! DEFINITION. The Sense Unit: the choice of a gap's tests, results and module states, settle, and the end of a survey
(Chapter 5). -/

namespace Sys2Proof.Machine

/-! ## Module items -/

/-- The state of a slot's module. -/
def State.moduleState (s : State) (i : Fin 8) : ModuleState := s.sense.modules[i].state

/-- Whether a die lies on a DARK module. -/
def State.onDark (s : State) (d : Nat) : Bool := decide (s.moduleState (slotOfChannel (dieChannel d)) = .dark)

/-- Replaces the items of a slot. -/
def setModule (i : Fin 8) (m : ModuleItem) (s : State) : State :=
  s.setSense { s.sense with modules := s.sense.modules.set i m }

/-- Whether a die has been chosen in this gap (R80). -/
def State.chosen (s : State) (d : Nat) : Bool := s.sense.gap.any fun e => e.die == d

/-- Chooses a die: it joins the gap list (R79 step 1). -/
def chooseDie (d : Nat) (p : Purpose) (serves : Bool) (s : State) : State :=
  s.setSense { s.sense with gap := s.sense.gap ++ [{ die := d, purpose := p, outstanding := true, serves := serves }] }

/-- The budget left of `b` once the gap list has been filled so far (R80). -/
def State.budgetLeft (s : State) : Nat := s.params.b - s.sense.gap.length

/-! ## Step 1: probes -/

/-- Whether the probe step may choose a die on slot `i`: present, on that slot, not pinned (R81). -/
def State.probeable (s : State) (i : Fin 8) (d : Nat) : Bool :=
  s.layout.presentDie d && decide (slotOfChannel (dieChannel d) = i) && !s.diePinned d

/-- The die a probe of slot `i` tests: the first at or after the probe cursor, wrapping within the slot (R81). -/
def State.probeDie (s : State) (i : Fin 8) : Option Nat :=
  let start := (s.sense.modules[i].probeCursor).getD 0
  match firstFrom (s.probeable i) (Config.dieCount - start) start with
  | some d => some d
  | none => firstFrom (s.probeable i) start 0

/-- The index after a die, or none after the last index (log entry 16). -/
def dieAfter (d : Nat) : Option Nat := if d + 1 < Config.dieCount then some (d + 1) else none

/-- One DARK module's turn at the probe step (R81). -/
def probeSlot (s : State) (i : Fin 8) : State :=
  if s.moduleState i = .dark ∧ 0 < s.budgetLeft then
    match s.probeDie i with
    | none => s
    | some d =>
      let s := chooseDie d .probe false s
      let s := setModule i { s.sense.modules[i] with probeCursor := dieAfter d } s
      s.setSense { s.sense with probeTurn := some i }
  else s

/-- The slots in ascending order, starting after the probe turn and wrapping past slot 7 (R81). -/
def slotsAfter : Option (Fin 8) → List (Fin 8)
  | none => slotList
  | some t => (slotList.filter fun i => decide (t < i)) ++ slotList.filter fun i => decide (i ≤ t)

/-- Step 1 of the choice (R81). -/
def probeStep (s : State) : State := (slotsAfter s.sense.probeTurn).foldl probeSlot s

/-! ## Step 2: due tests -/

/-- Whether a record is due for a test that the due-test step can make: SUSPECT or RETEST, not on a DARK module, its
die not chosen by the probe step (R82). -/
def State.due (s : State) (e : Nat × DefectRecord) : Bool :=
  decide (e.2.state = .suspect ∨ e.2.state = .retest) && !s.onDark e.1 && !s.chosen e.1

/-- The due dies in ascending order, starting after the service position and wrapping (R82). -/
def State.dueOrder (s : State) : List Nat :=
  let ds := Table.keys (s.map.records.filter s.due)
  match s.sense.servicePos with
  | none => ds
  | some p => (ds.filter fun d => decide (p < d)) ++ ds.filter fun d => decide (d ≤ p)

/-- One due die is chosen; the service position becomes that die (R82). -/
def chooseDue (s : State) (d : Nat) : State :=
  let s := chooseDie d .dueTest false s
  s.setSense { s.sense with servicePos := some d }

/-- Step 2 of the choice (R82). -/
def dueStep (s : State) : State := (s.dueOrder.take s.budgetLeft).foldl chooseDue s

/-! ## Step 3: the survey -/

/-- Moves the survey's cursor. -/
def setCursor (c : Option Nat) (s : State) : State := setLong { s.sense.long with cursor := c } s

/-- The entry of a die is marked as serving the survey (R93). -/
def shareTest (d : Nat) (s : State) : State :=
  s.setSense { s.sense with gap := s.sense.gap.map fun e => if e.die = d then { e with serves := true } else e }

/-- The survey counts one die skipped. -/
def countSkipped (s : State) : State := setLong { s.sense.long with skipped := s.sense.long.skipped + 1 } s

/-- What the survey does with the die whose turn it is: the cases of R93's table, from the top. -/
def surveyTurn (d : Nat) (s : State) : State :=
  if !s.layout.presentDie d then s
  else match s.recordState d with
    | some .pinnedDead | some .pinnedGood | some .confirmed | some .retest => s
    | some .suspect | none =>
      if s.onDark d then countSkipped s
      else if s.chosen d then shareTest d s
      else chooseDie d .survey true s

/-- The survey step: while budget remains, the die at the cursor takes its turn and the cursor moves to the next die
in scope (R83, R93). -/
def surveyStep : Nat → State → State
  | 0, s => s
  | fuel + 1, s =>
    match s.sense.long.cursor with
    | none => s
    | some d =>
      if s.budgetLeft = 0 then s
      else
        let l := s.sense.long
        surveyStep fuel (setCursor (nextInScope l.region l.colours l.dice (d + 1)) (surveyTurn d s))

/-! ## Step 4: patrol -/

/-- Whether the patrol may choose a die (R84). -/
def State.patrollable (s : State) (d : Nat) : Bool :=
  s.layout.presentDie d && !s.onDark d && (s.recordState d).isNone && !s.chosen d

/-- Sets the patrol cursor. -/
def setPatrol (d : Nat) (s : State) : State := s.setSense { s.sense with patrol := d }

/-- The patrol takes die `d`: the cursor moves to the index after it, and to 0 after 110,591, which is a wrap (R84). -/
def patrolTake (d : Nat) (s : State) : State :=
  let s := chooseDie d .patrol false s
  if d + 1 < Config.dieCount then setPatrol (d + 1) s else count .patrolCycles (setPatrol 0 s)

/-- One choice of the patrol: the first die from the cursor on, or, past die 110,591, from 0 on, which is a wrap; with
no die in the whole range nothing changes (R84).  A search that finds no further die counts no wrap and keeps the cursor
also where the step has chosen dies before it in the same gap (log entry 27). -/
def patrolOne (s : State) : State :=
  let c := s.sense.patrol
  match firstFrom s.patrollable (Config.dieCount - c) c with
  | some d => patrolTake d s
  | none =>
    match firstFrom s.patrollable c 0 with
    | some d => patrolTake d (count .patrolCycles s)
    | none => s

/-- Step 4 of the choice, with `b` units of budget left (R84). -/
def patrolStep : Nat → State → State
  | 0, s => s
  | b + 1, s => patrolStep b (patrolOne s)

/-- The choice of a gap's tests (R80). -/
def chooseTests (s : State) : State :=
  let s := dueStep (probeStep s)
  let s := if s.sense.long.running ∧ s.sense.long.kind = .survey then surveyStep (Config.dieCount + 1) s else s
  patrolStep s.budgetLeft s

/-! ## Sending -/

/-- The dies of the gap list that lie on slot `i`, in the order they were chosen. -/
def State.gapDiesOn (s : State) (i : Fin 8) : List Nat :=
  (s.sense.gap.filter fun e => decide (slotOfChannel (dieChannel e.die) = i)).map GapEntry.die

/-- For each entry of the gap list a test request that names the die is sent on the chain port of the die's slot, and
TESTS is counted once (R79 step 2). -/
def sendTests (s : State) : State :=
  countTimes .tests s.sense.gap.length (s.setSense { s.sense with requests := perSlot s.gapDiesOn })

/-- The gap that starts takes the next number (log entry 30). -/
def numberGap (s : State) : State := s.setSense { s.sense with gapNumber := s.sense.gapNumber + 1 }

/-- A gap start: the choice is complete before the first test request is sent (R79, R80). -/
def gapStart (s : State) : State := sendTests (chooseTests (numberGap s))

/-! ## Results -/

/-- A NO_ANSWER result acts on the module: the run rises, and at 3 an ONLINE or HOT module becomes DARK (R87). -/
def noAnswerModule (i : Fin 8) (s : State) : State :=
  let m := s.sense.modules[i]
  let run := min 3 (m.noAnswer + 1)
  if run = 3 ∧ (m.state = .online ∨ m.state = .hot) then
    darkRound i (raise .moduleDark (setModule i { m with noAnswer := run, state := .dark } s))
  else setModule i { m with noAnswer := run } s

/-- An answer acts on the module: the run becomes 0, a DARK module returns with settle 8, and the HOT flag moves the
module between ONLINE and HOT (R88, R89). -/
def answerModule (i : Fin 8) (hot : Bool) (s : State) : State :=
  let m := { s.sense.modules[i] with noAnswer := 0 }
  match m.state with
  | .dark =>
    if hot then darkRound i (raise .moduleHot (setModule i { m with state := .hot, settle := 8 } s))
    else darkRound i (setModule i { m with state := .online, settle := 8 } s)
  | .online =>
    if hot then raise .moduleHot (setModule i { m with state := .hot } s) else setModule i m s
  | .hot => if hot then setModule i m s else setModule i { m with state := .online, settle := 8 } s
  | .vacant => setModule i m s

/-- Whether OPEN results from a module are set aside: it is HOT or its settle is above 0 (R85 step 4). -/
def ModuleItem.setsAside (m : ModuleItem) : Bool := decide (m.state = .hot) || decide (0 < m.settle)

/-- The survey counts one result handed on, and a fault found when it is OPEN or SHORT (R94). -/
def countTested (o : TestAnswer) (s : State) : State :=
  let l := s.sense.long
  setLong { l with tested := l.tested + 1, faults := if o = .ok then l.faults else l.faults + 1 } s

/-- Steps 3 to 5 of R85 for an answer, once the module state has taken it.  DESIGN CHOICE (log entry 31): a die has become
pinned since its choice exactly when it is pinned as its answer is taken, so one pinned and unpinned again since then has
its result handed on. -/
def judgeAnswer (d : Nat) (serves : Bool) (o : TestAnswer) (s : State) : State :=
  if s.diePinned d then s
  else if o = .opened ∧ (s.sense.modules[slotOfChannel (dieChannel d)].setsAside) then
    let s := count .hotDiscards s
    if serves then countSkipped s else s
  else observe d o (if serves then countTested o s else s)

/-- The entry of a die no longer waits for a result. -/
def markTaken (d : Nat) (s : State) : State :=
  s.setSense { s.sense with gap := s.sense.gap.map fun e => if e.die = d then { e with outstanding := false } else e }

/-- An answer to a gap test.  One that arrives after the gap of its test has ended, one for a die that is not in the gap
list and one whose result has been taken are discarded (R79, R85).  The gap in progress is the one of number `gapNumber`;
that the answer names the gap of its test is log entry 30. -/
def takeAnswer (x : GapTest) (o : TestAnswer) (hot : Bool) (s : State) : State :=
  if x.gapNumber ≠ s.sense.gapNumber then s
  else match s.sense.gap.find? fun e => e.die == x.die && e.outstanding with
  | none => s
  | some e => judgeAnswer x.die e.serves o (answerModule (slotOfChannel (dieChannel x.die)) hot (markTaken x.die s))

/-- A NO_ANSWER result at the gap end: the module state, and the survey's skipped count (R85 steps 1 and 2). -/
def takeNoAnswer (s : State) (e : Nat × Bool) : State :=
  let s := noAnswerModule (slotOfChannel (dieChannel e.1)) (markTaken e.1 s)
  if e.2 then countSkipped s else s

/-- The outstanding tests in ascending die index, each with its survey mark (R79 step 4). -/
def State.outstandingTests (s : State) : Table Bool :=
  (s.sense.gap.filter GapEntry.outstanding).foldl (fun t e => Table.store t e.die e.serves) []

/-- Settle above 0 falls by 1 on every FITTED module (R90). -/
def settleFalls (s : State) : State :=
  s.setSense { s.sense with
    modules := perSlot fun i =>
      if s.layout.fitted i then { s.sense.modules[i] with settle := s.sense.modules[i].settle - 1 }
      else s.sense.modules[i] }

/-- A RUNNING survey whose cursor has passed the last die in scope ends COMPLETE (R95). -/
def surveyCheck (s : State) : State :=
  let l := s.sense.long
  if l.running ∧ l.kind = .survey ∧ l.cursor = none then raise .longDone (endLong .complete s) else s

/-- Empties the gap list, and with it the record of the requests sent (log entry 29). -/
def emptyGap (s : State) : State := s.setSense { s.sense with gap := [], requests := Vector.replicate 8 [] }

/-- The end of an ACTIVE gap (R79 step 4, R90, R95). -/
def senseGapEnd (s : State) : State :=
  emptyGap (surveyCheck (settleFalls (s.outstandingTests.foldl takeNoAnswer s)))

end Sys2Proof.Machine
end

