-- ==== Sys2Proof/Machine/ScanEngine.lean ====
section
/-! DEFINITION. The Scan Engine: pass starts, drives, wake and standby, the immediate cut (Chapter 4). -/

namespace Sys2Proof.Machine

/-! ## Pass start -/

/-- One edited channel is copied: the live select and entry take the pending ones (R58). -/
def copyChannel (p : Plan) (c : Scan) (n : Nat) : Scan :=
  { c with
    liveSelect := Table.hold .a c.liveSelect n (p.selectOf n)
    liveBoost := Table.assign c.liveBoost n (p.entryOf n) }

/-- The edited channels are copied into the live tables and their marks cleared (R58). -/
def planCopy (s : State) : State :=
  (s.setScan (s.plan.edited.keys.foldl (copyChannel s.plan) s.scan)).setPlan { s.plan with edited := [] }

/-- The engine's items at a pass start: the pass number rises, the clip mark clears, in WAKING the passes remaining
fall, and the period phase becomes pass (R56, R57). -/
def Scan.passBegun (c : Scan) : Scan :=
  { c with
    passNumber := c.passNumber + 1
    clip := false
    wakingLeft := if c.display = .waking then c.wakingLeft - 1 else c.wakingLeft
    phase := .pass
    rowsLit := 0 }

/-- A pass start, taken whole (R57 and Chapter 3). -/
def passStart (s : State) : State := storePassStart (planCopy (s.setScan s.scan.passBegun))

/-- A wake of either source: from STANDBY with the layout SET the first WAKING pass begins at once (R60). -/
def wakeDisplay (s : State) : State :=
  if s.scan.display = .standby ∧ s.layout.status = .set then
    passStart (s.setScan { s.scan with display := .waking, wakingLeft := 16, standby := .none })
  else s

/-! ## Lighting a row -/

/-- The value of channel `m` as the row window gives it (R40, R66). -/
def State.valueOf (s : State) (m : Nat) : Nat := s.pixel (channelX m) (channelY m) (channelColour m)

/-- One boost term: floor(v(L) × s / 4) for the neighbour in the boost's direction (R67 step 2). -/
def State.boostTerm (s : State) (n : Nat) (e : BoostEntry) (d : Direction) : Nat :=
  match e.share d, s.layout.neighbour n d with
  | some share, some m => s.valueOf m * share / 4
  | _, _ => 0

/-- The pre-trim sum of a channel (R67 step 2). -/
def State.preTrim (s : State) (n : Nat) : Nat :=
  s.valueOf n * 64 +
    match s.scan.entryOf n with
    | none => 0
    | some e => (directions.map (s.boostTerm n e)).sum

/-- The value `out` of a channel before the clamp (R67 steps 1, 3 and 4). -/
def State.driveOut (s : State) (n : Nat) : Nat :=
  match s.scan.selectOf n with
  | .off => 0
  | .a => s.preTrim n
  | .b => (s.preTrim n * s.layout.record.slots[slotOfChannel n].trim + 128) / 256

/-- The die a select lights. -/
def Select.lights : Select → Option DieName
  | .a => some .a
  | .b => some .b
  | .off => none

/-- What the port sends for a channel of an ACTIVE pass (R67, R68, R70). -/
def State.activeDrive (s : State) (n : Nat) : Drive :=
  { channel := n, value := min 65535 (s.driveOut n), lit := (s.scan.selectOf n).lights }

/-- What the port sends for a channel of a WAKING pass (R61, R67). -/
def darkDrive (n : Nat) : Drive := { channel := n, value := 0, lit := none }

/-- The 144 channels of slot `i` in row `y`, sites in ascending x and colours in the order R, G, B (R66). -/
def slotRowChannels (i : Fin 8) (y : Nat) : List Nat :=
  (List.range 144).map fun k => channelAt (48 * (i.val % 4)) y 0 + k

/-- Whether slot `i` is sent the drives of row `y`: FITTED, in the row's module row, inside the grid (R70). -/
def Layout.servesRow (l : Layout) (i : Fin 8) (y : Nat) : Bool :=
  l.fitted i && decide (i.val / 4 = y / 48) && decide (i.val % 4 < l.record.mc)

/-- The channels of row `y` that are driven (R66). -/
def State.rowChannels (s : State) (y : Nat) : List Nat :=
  (slotList.filter fun i => s.layout.servesRow i y).flatMap fun i => slotRowChannels i y

/-- What port `i` sends while row `y` is lit (R70). -/
def State.portRow (s : State) (y : Nat) (i : Fin 8) : List Drive :=
  if s.layout.servesRow i y then
    (slotRowChannels i y).map (if s.scan.display = .active then s.activeDrive else darkDrive)
  else []

/-- Whether a drive of row `y` is clamped (R68); WAKING passes send drives of 0 and never clamp. -/
def State.rowClips (s : State) (y : Nat) : Bool :=
  decide (s.scan.display = .active) && (s.rowChannels y).any fun n => decide (65535 < s.driveOut n)

/-- The first clamped drive of a pass sets the clip mark and counts CLIP_PASSES (R68). -/
def markClip (y : Nat) (s : State) : State :=
  if s.rowClips y ∧ s.scan.clip = false then count .clipPasses (s.setScan { s.scan with clip := true }) else s

/-- Row `rowsLit` of the pass is lit (R66, R67, R70).  Outside a pass, or once every row has been lit, no row can be
lit and nothing changes (log entry 3). -/
def lightRow (s : State) : State :=
  let y := s.scan.rowsLit
  if s.scan.phase = .pass ∧ y < s.layout.height then
    let ports := perSlot (s.portRow y)
    let s := markClip y s
    s.setScan { s.scan with ports := ports, rowsLit := y + 1 }
  else s

/-! ## Pass end, gap end and entry to STANDBY -/

/-- Every chain port stops sending (R64, R76). -/
def silentPorts : Vector (List Drive) 8 := Vector.replicate 8 []

/-- The engine's items on entry to STANDBY (R64). -/
def Scan.asleep (c : Scan) : Scan :=
  { c with display := .standby, phase := .none, wakingLeft := 0, standby := .none, ports := silentPorts }

/-- The blocks' parts of an entry to STANDBY at a pass end, but for the owed reply: the frame in reception is cut and
a running long command is halted (R64, R33, R99). -/
def fallAsleep (s : State) : State :=
  let s := cutForStandby (s.setScan s.scan.asleep)
  if s.sense.long.running then raise .longDone (stopLong .haltedByStandby s) else s

/-- The gap that follows a pass: in ACTIVE the Sense Unit is handed a gap start (R56 step 4, R79). -/
def enterGap (s : State) : State :=
  let s := s.setScan { s.scan with phase := .gap, ports := silentPorts }
  if s.scan.display = .active then gapStart s else s

/-- The end of the last WAKING gap makes the display ACTIVE and raises WOKEN (R61). -/
def wokenCheck (s : State) : State :=
  if s.scan.display = .waking ∧ s.scan.wakingLeft = 0 then
    raise .woken (s.setScan { s.scan with display := .active })
  else s

/-- A gap end: in ACTIVE the Sense Unit's gap end, in WAKING the check for WOKEN; the next pass start follows at once
(R56 step 5, R61, R79).  Outside a gap nothing changes (log entry 3). -/
def endGap (s : State) : State :=
  if s.scan.phase = .gap then
    passStart (wokenCheck (if s.scan.display = .active then senseGapEnd s else s))
  else s

/-! ## The immediate cut -/

/-- The die a channel's live select lights. -/
def State.lightsDie (s : State) (d : Nat) : Bool :=
  match s.scan.selectOf (dieChannel d) with
  | .off => false
  | .a => !isDieB d
  | .b => isDieB d

/-- Steps 1 and 2 of the immediate cut: both selects become OFF, LOST is raised if the pending one was not OFF before,
and both boost entries are deleted (R72). -/
def cutChannel (n : Nat) (s : State) : State :=
  let s' := s.setScan { s.scan with
    liveSelect := Table.hold .a s.scan.liveSelect n .off
    liveBoost := Table.discard s.scan.liveBoost n }
  let s' := setPendingEntry n none (setPendingSelect n .off s')
  if s.plan.selectOf n = .off then s' else raise .lost s'

/-- The immediate cut on a report for die `d` (R72, R153). -/
def immediateCut (d : Nat) (s : State) : State :=
  cutRound (dieChannel d) (observe d .shorted (cutChannel (dieChannel d) s))

/-- A live short report, judged as R71 says; a die that is not present is lit by no port, so its report is discarded
with the reports of dies that are not lit (log entry 7). -/
def liveShort (d : Nat) (s : State) : State :=
  if s.scan.display ≠ .active ∨ s.scan.phase ≠ .pass then s
  else if !s.layout.presentDie d || !s.lightsDie d then s
  else if s.recordState d = some .pinnedGood then count .pinnedShorts s
  else immediateCut d s

end Sys2Proof.Machine
end

