-- ==== Sys2Proof/Machine/ControlPort.lean ====
section
/-! DEFINITION. The Control Port: framing, the message queue, the hand-on of messages and their replies (Chapter 9),
with the commands POWER_ON, CONTROL_CHARACTER, REPLY_SENT and UNKNOWN_KIND. -/

namespace Sys2Proof.Machine

/-! ## Framing (R175, R176) -/

/-- START opens a message. -/
def portStart : Byte := 0xF0
/-- END closes a message. -/
def portEnd : Byte := 0xF1
/-- ESC marks the next character as an escaped content byte. -/
def portEsc : Byte := 0xF2

/-- The content byte an escape completed by `ch` yields; any other character is a bad escape (R175). -/
def portUnescape (ch : Byte) : Option Byte :=
  if ch = 0xE0 ∨ ch = 0xE1 ∨ ch = 0xE2 then some (ch ^^^ 0x10) else none

/-- A content byte as it is sent: a reserved value as ESC followed by the value XOR 0x10 (R175). -/
def portEscape (b : Byte) : List Byte :=
  if b = portStart ∨ b = portEnd ∨ b = portEsc then [portEsc, b ^^^ 0x10] else [b]

/-- The sum of a content's bytes, mod 256 (R176). -/
def contentSum (c : List Byte) : Byte := c.foldl (· + ·) 0

/-- The framing state, content and escape replaced. -/
def setFraming (f : Framing) (escape : Bool) (content : List Byte) (s : State) : State :=
  s.setControl { s.control with framing := f, escape := escape, content := content }

/-- A bad frame is counted once, and the content and escape are cleared with it (R175, R176). -/
def badFrame (next : Framing) (s : State) : State := count .ctlBadFrame (setFraming next false [] s)

/-- A content byte is appended; one that would be the 64th makes the message a bad frame (R175). -/
def appendContent (b : Byte) (s : State) : State :=
  if s.control.content.length < 63 then setFraming .assembling false (s.control.content ++ [b]) s else badFrame .idle s

/-- A complete message joins the queue, or is dropped when the queue holds 4 (R177). -/
def offerMessage (m : Message) (s : State) : State :=
  if s.control.queue.length < Config.messageCapacity then s.setControl { s.control with queue := s.control.queue ++ [m] }
  else raise .queueOverflow (count .ctlOverrun s)

/-- The message a content of three bytes or more spells: kind, tag, payload and check (R176). -/
def messageOf (c : List Byte) : Message :=
  { kind := c.getD 0 0, tag := c.getD 1 0, payload := (c.drop 2).dropLast }

/-- END completes a message, which is judged (R176). -/
def completeMessage (s : State) : State :=
  let c := s.control.content
  if c.length < 3 ∨ contentSum c ≠ 0 then badFrame .idle s
  else offerMessage (messageOf c) (setFraming .idle false [] s)

/-- A character while a message is being assembled (R175). -/
def assembleCharacter (ch : Byte) (s : State) : State :=
  if s.control.escape then
    match portUnescape ch with
    | some v => appendContent v s
    | none => badFrame (if ch = portStart then .assembling else .idle) s
  else if ch = portStart then
    if s.control.content = [] then setFraming .assembling false [] s else badFrame .assembling s
  else if ch = portEnd then completeMessage s
  else if ch = portEsc then setFraming .assembling true s.control.content s
  else appendContent ch s

/-- A character on the control line; one with a missing stop bit is no byte, and in ASSEMBLING makes the message a bad
frame (R175). -/
def takeCharacter (ch : Byte) (stopBit : Bool) (s : State) : State :=
  match s.control.framing with
  | .idle => if stopBit ∧ ch = portStart then setFraming .assembling false [] s else s
  | .assembling => if stopBit then assembleCharacter ch s else badFrame .idle s

/-! ## Replies (R179, R180) -/

/-- The status codes of R180. -/
inductive Status where
  | ok
  | busy
  | wrongState
  | badArg
  | noRoom
  | notFound
  | unknown
  deriving DecidableEq, Repr

/-- The code of a status (R180). -/
def Status.code : Status → Byte
  | .ok => 0
  | .busy => 1
  | .wrongState => 2
  | .badArg => 3
  | .noRoom => 4
  | .notFound => 5
  | .unknown => 6

/-- What an owning block answers: OK with the reply data, a refusal that carries the status alone (R180), or a reply
that is owed until a pass end (R64). -/
inductive Answer where
  | ok (data : List Byte)
  | refuse (status : Status)
  | owed
  deriving DecidableEq, Repr

/-- A reply to a message: its kind plus 0x80, its tag, and the payload with the status first (R179). -/
def replyTo (m : Message) (status : Status) (data : List Byte) : Reply :=
  { kind := m.kind + 0x80, tag := m.tag, payload := status.code :: data }

/-- The content of a reply with the check that makes its sum 0 mod 256 (R179). -/
def Reply.content (r : Reply) : List Byte :=
  let body := r.kind :: r.tag :: r.payload
  body ++ [0 - contentSum body]

/-- The characters of a reply on the line: START, the escaped content, END (R175, R179). -/
def Reply.characters (r : Reply) : List Byte := portStart :: r.content.flatMap portEscape ++ [portEnd]

/-- A formed reply joins the tail of the reply buffer, the message leaves the queue and none is in hand (R178). -/
def formReply (m : Message) (status : Status) (data : List Byte) (s : State) : State :=
  s.setControl { s.control with
    replies := s.control.replies ++ [replyTo m status data], queue := s.control.queue.tail, inHand := false }

/-- The message stays in hand at the head of the queue until its reply is formed (R178). -/
def keepInHand (s : State) : State := s.setControl { s.control with inHand := true }

/-- The END of the oldest reply has been sent: it leaves the buffer (R179).  With the buffer empty nothing changes. -/
def sendReply (s : State) : State :=
  match s.control.replies with
  | [] => s
  | r :: rs => s.setControl { s.control with replies := rs, lineOut := r.characters }

/-! ## Message kinds (R181) -/

/-- The payload lengths the table of R181 allows for a kind, in bytes; none for a kind the part does not know. -/
def payloadLengths (kind : Byte) : Option (List Nat) :=
  match kind.toNat with
  | 0x01 => some [0]
  | 0x02 => some [1]
  | 0x03 => some [36]
  | 0x04 => some [0]
  | 0x05 => some [7]
  | 0x06 => some [0]
  | 0x10 => some [6]
  | 0x11 => some [6]
  | 0x12 => some [0]
  | 0x18 => some [4]
  | 0x19 => some [3]
  | 0x1A => some [4]
  | 0x20 => some [3]
  | 0x21 => some [0]
  | 0x22 => some [3]
  | 0x28 => some [10]
  | 0x29 => some [0]
  | 0x2A => some [0]
  | 0x2B => some [0]
  | 0x30 => some [0]
  | 0x31 => some [0]
  | 0x32 => some [0]
  | 0x38 => some [0, 2]
  | 0x39 => some [2]
  | 0x3A => some [1]
  | _ => none

/-! ## Handing on (R178, R180) -/

/-- The message that can be handed on now: the head of the queue, when no message is in hand and the reply buffer
holds fewer than 4 replies (R178). -/
def State.handable (s : State) : Option Message :=
  if s.control.inHand ∨ Config.replyCapacity ≤ s.control.replies.length then none else s.control.queue.head?

/-- What follows the owning block's action: the reply is formed, or the message stays in hand (R178, R180). -/
def settleAnswer (m : Message) (r : State × Answer) : State :=
  match r.2 with
  | .ok data => formReply m .ok data r.1
  | .refuse status => formReply m status [] r.1
  | .owed => keepInHand r.1

/-- The hand-on of a message of kind `kind`: the length check, then the owning block's `act` on the payload (R178,
R180).  When the message that can be handed on is of another kind, or there is none, nothing changes (log entry 1). -/
def handOn (kind : Byte) (act : List Byte → State → State × Answer) (s : State) : State :=
  match s.handable with
  | none => s
  | some m =>
    if m.kind = kind then
      if m.payload.length ∈ (payloadLengths kind).getD [] then settleAnswer m (act m.payload s)
      else formReply m .badArg [] s
    else s

/-- The hand-on of a message whose kind the part does not know: answered UNKNOWN, whatever its payload (R180). -/
def handOnUnknown (s : State) : State :=
  match s.handable with
  | none => s
  | some m => if payloadLengths m.kind = none then formReply m .unknown [] s else s

/-! ## The commands -/

/-- POWER_ON (R15): every block takes its power-on state; the commands that wait are the model's, and wait on (log
entry 14).  The parameters take their defaults, W and C among them, as R174 and R182 say, where R131 says that power-on
does not change W or C (log entry 28).  The numbering of the gaps goes on, so that no answer from before meets its number again (log
entry 30). -/
def execPowerOn (s : State) : Host.Outcome State Fault Refusal :=
  .next ((State.reset.setPending s.pending).setSense { Sense.powerOn with gapNumber := s.sense.gapNumber })

/-- CONTROL_CHARACTER (R175). -/
def execControlCharacter (ch : Byte) (stopBit : Bool) (s : State) : Host.Outcome State Fault Refusal :=
  .next (takeCharacter ch stopBit s)

/-- REPLY_SENT (R179). -/
def execReplySent (s : State) : Host.Outcome State Fault Refusal := .next (sendReply s)

/-- UNKNOWN_KIND (R180). -/
def execUnknownKind (s : State) : Host.Outcome State Fault Refusal := .next (handOnUnknown s)

end Sys2Proof.Machine
end

