-- ==== Sys2Proof/Machine/CaptureCommands.lean ====
section
/-! DEFINITION. ARM_CAPTURE, DISARM, READ_CAPTURE and RELEASE_HOLD (R160, R161, R168 to R170). -/

namespace Sys2Proof.Machine

/-- M2 as an arming carries it: off when its colour set is empty, and then its region is not looked at (R189, R190). -/
def sentPlace (p : List Byte) : Option PlaceMatcher :=
  let colours := (p.getD 6 0).truncate 3
  if colours = 0 then none else some { region := regionAt p 2, colours := colours }

/-- M1 as an arming carries it: the kinds set in two bytes, bits beyond the eleven kinds not looked at (R189, R190). -/
def sentKinds (p : List Byte) : BitVec 11 := BitVec.ofNat 11 (numberAt p 0 2)

/-- Whether M2's region, when it is given, has its corners in order (R160). -/
def placeAccepted (m : Option PlaceMatcher) : Bool :=
  match m with
  | none => true
  | some m => decide (m.region.x0 ≤ m.region.x1 ∧ m.region.y0 ≤ m.region.y1)

/-- Whether the combine uses exactly the matchers that are given (R160). -/
def combineAccepted (c : Combine) (m1 m2 : Bool) : Bool :=
  match c with
  | .m1 => m1 && !m2
  | .m2 => !m1 && m2
  | .both | .either => m1 && m2

/-- The arming a payload carries, if it passes the checks of R160. -/
def sentArming (p : List Byte) : Option Arming :=
  match Combine.ofCode (byteAt p 7) with
  | none => none
  | some c =>
    if placeAccepted (sentPlace p) && combineAccepted c (decide (sentKinds p ≠ 0)) (sentPlace p).isSome
        && decide (byteAt p 9 ≤ 1) then
      some { kinds := sentKinds p, place := sentPlace p, combine := c, holdMask := p.getD 8 0,
             autoRearm := decide (byteAt p 9 = 1) }
    else none

/-- ARM_CAPTURE's action (R160, R161). -/
def actArmCapture (p : List Byte) (s : State) : State × Answer :=
  match sentArming p with
  | none => (s, .refuse .badArg)
  | some a =>
    (s.setCapture { s.capture with arming := a, snapshot := none, state := .armed },
      .ok [byteOf s.capture.state.code, flagByte s.capture.snapshot.isSome, s.capture.held])

/-- DISARM's action (R169). -/
def actDisarm (_ : List Byte) (s : State) : State × Answer :=
  (s.setCapture { s.capture with state := .disarmed }, .ok [byteOf s.capture.state.code, s.capture.held])

/-- The record of a snapshot: whether it is present, and 13 bytes, all 0 when it is absent (R191). -/
def snapshotRecordBytes (n : Snapshot) : List Byte :=
  match n.record with
  | none => flagByte false :: List.replicate 13 0
  | some r => flagByte true :: recordBytes n.transition.die r

/-- The snapshot as READ_CAPTURE carries it (R191). -/
def snapshotBytes (n : Snapshot) : List Byte :=
  transitionBytes n.transition ++ snapshotRecordBytes n ++ [selectByte n.pendingSelect n.liveSelect, directionSet n.liveBoost]
    ++ shareBytes n.liveBoost ++ [byteOf n.moduleState.code, byteOf n.settle] ++ bytesOf 4 n.passNumber.toNat

/-- READ_CAPTURE's answer (R170). -/
def actReadCapture (_ : List Byte) (s : State) : State × Answer :=
  (s, .ok ([byteOf s.capture.state.code, s.capture.held] ++
    match s.capture.snapshot with
    | none => [flagByte false]
    | some n => flagByte true :: snapshotBytes n))

/-- RELEASE_HOLD's action: with a slot held, the held slots become empty and the release round is taken (R168). -/
def actReleaseHold (_ : List Byte) (s : State) : State × Answer :=
  if s.capture.held = 0 then (s, .ok [0])
  else (releaseRound (s.setCapture { s.capture with held := 0 }), .ok [s.capture.held])

/-- ARM_CAPTURE (R161). -/
def execArmCapture (s : State) : Host.Outcome State Fault Refusal := .next (handOn 0x28 actArmCapture s)

/-- DISARM (R169). -/
def execDisarm (s : State) : Host.Outcome State Fault Refusal := .next (handOn 0x29 actDisarm s)

/-- READ_CAPTURE (R170). -/
def execReadCapture (s : State) : Host.Outcome State Fault Refusal := .next (handOn 0x2A actReadCapture s)

/-- RELEASE_HOLD (R168). -/
def execReleaseHold (s : State) : Host.Outcome State Fault Refusal := .next (handOn 0x2B actReleaseHold s)

end Sys2Proof.Machine
end

