-- ==== Sys2Proof/Machine/DieCommands.lean ====
section
/-! DEFINITION. What the modules send back: GAP_TEST_ANSWER and LIVE_SHORT_REPORT (R71, R85). -/

namespace Sys2Proof.Machine

/-- GAP_TEST_ANSWER (R79, R85). -/
def execGapTestAnswer (test : GapTest) (result : TestAnswer) (hot : Bool) (s : State) :
    Host.Outcome State Fault Refusal :=
  .next (takeAnswer test result hot s)

/-- LIVE_SHORT_REPORT (R71). -/
def execLiveShortReport (die : Nat) (s : State) : Host.Outcome State Fault Refusal := .next (liveShort die s)

end Sys2Proof.Machine
end

