-- ==== Sys2Proof/Machine/DisplayCommands.lean ====
section
/-! DEFINITION. STANDBY, WAKE and RESTART, and the timing events LIGHT_ROW, PASS_END and GAP_END (R56, R60, R63, R64,
R66, R187). -/

namespace Sys2Proof.Machine

/-! ## STANDBY and WAKE -/

/-- The reply data of STANDBY: the display state after the command, which is STANDBY (R191). -/
def standbyReply : List Byte := [byteOf Display.standby.code]

/-- STANDBY's action: answered at once in STANDBY, else the request waits with its reply owed (R63). -/
def actStandby (_ : List Byte) (s : State) : State × Answer :=
  if s.scan.display = .standby then (s, .ok standbyReply)
  else (s.setScan { s.scan with standby := .requestedOwed }, .owed)

/-- The reply data of WAKE: the display state after the command, and whether a standby is waiting (R60, R191). -/
def wakeReply (s : State) : List Byte := [byteOf s.scan.display.code, flagByte (decide (s.scan.standby ≠ .none))]

/-- WAKE's action (R60). -/
def actWake (_ : List Byte) (s : State) : State × Answer :=
  if s.scan.display = .standby ∧ s.layout.status = .unset then (s, .refuse .wrongState)
  else
    let s' := wakeDisplay s
    (s', .ok (wakeReply s'))

/-! ## RESTART (R187) -/

/-- Step 1: the Capture Unit (R172). -/
def restartCapture (s : State) : State := s.setCapture Capture.powerOn

/-- The Scan Engine's items: STANDBY at once; pass number and live tables kept (R76). -/
def Scan.restarted (c : Scan) : Scan :=
  { c with
    display := .standby, phase := .none, standby := .none, wakingLeft := 0, clip := false, rowsLit := 0,
    ports := silentPorts }

/-- Step 2: display, input and store (R76, R37, R54). -/
def restartPicture (s : State) : State := blackenStore ((s.setScan s.scan.restarted).setInput Receiver.powerOn)

/-- The items of a slot after RESTART (R102). -/
def restartedModule (s : State) (i : Fin 8) : ModuleItem :=
  if s.layout.fitted i then { state := .online, settle := 8, noAnswer := 0, probeCursor := none }
  else { s.sense.modules[i] with probeCursor := none }

/-- Step 3: gap list and its requests (log entry 29), module states and the long command (R102, R130). -/
def restartSense (s : State) : State :=
  let s := s.setSense { s.sense with
    gap := [], requests := Vector.replicate 8 [], modules := perSlot (restartedModule s), probeTurn := none }
  if s.sense.long.running then stopLong .aborted s else s

/-- The slots that RESTART takes out of DARK (R158). -/
def State.darkSlots (s : State) : List (Fin 8) := slotList.filter fun i => decide (s.moduleState i = .dark) && s.layout.fitted i

/-- The whole of RESTART, in the order of R187. -/
def restartAll (s : State) : State :=
  let s' := restartRound s.darkSlots (restartSense (restartPicture (restartCapture s)))
  s'.setEvents s'.events.restarted

/-- RESTART's action (R187). -/
def actRestart (_ : List Byte) (s : State) : State × Answer := (restartAll s, .ok [])

/-! ## PASS_END -/

/-- The reply a STANDBY in hand is owed is formed (R64). -/
def payOwedReply (s : State) : State :=
  match s.control.queue with
  | [] => s
  | m :: _ => formReply m .ok standbyReply s

/-- Entry to STANDBY at a pass end, with the owed reply if a STANDBY command waits (R64). -/
def enterStandby (s : State) : State :=
  let owed := decide (s.scan.standby = .requestedOwed)
  let s' := fallAsleep s
  if owed then payOwedReply s' else s'

/-- The end of a pass, once its last row has been lit (R56 step 3).  At any other moment no pass ends and nothing
changes (log entry 3). -/
def endPass (s : State) : State :=
  if s.scan.phase = .pass ∧ s.layout.height ≤ s.scan.rowsLit then
    if s.scan.standby ≠ .none then enterStandby s else enterGap s
  else s

/-! ## The commands -/

/-- STANDBY (R63). -/
def execStandby (s : State) : Host.Outcome State Fault Refusal := .next (handOn 0x30 actStandby s)

/-- WAKE (R60). -/
def execWake (s : State) : Host.Outcome State Fault Refusal := .next (handOn 0x31 actWake s)

/-- RESTART (R187). -/
def execRestart (s : State) : Host.Outcome State Fault Refusal := .next (handOn 0x32 actRestart s)

/-- LIGHT_ROW (R66). -/
def execLightRow (s : State) : Host.Outcome State Fault Refusal := .next (lightRow s)

/-- PASS_END (R56). -/
def execPassEnd (s : State) : Host.Outcome State Fault Refusal := .next (endPass s)

/-- GAP_END (R79). -/
def execGapEnd (s : State) : Host.Outcome State Fault Refusal := .next (endGap s)

end Sys2Proof.Machine
end

