-- ==== Sys2Proof/Machine/EventCommands.lean ====
section
/-! DEFINITION. READ_EVENTS, SET_MASK and READ_COUNTERS (R196, R197, R200). -/

namespace Sys2Proof.Machine

/-- The 15-bit event set of a 2-byte payload; bit 15 is not looked at (R196, R197). -/
def sentEvents (p : List Byte) : BitVec 15 := BitVec.ofNat 15 (numberAt p 0 2)

/-- The clear mask of a READ_EVENTS: all 15 events for an empty payload (R196). -/
def clearMask (p : List Byte) : BitVec 15 := if p.length = 0 then BitVec.allOnes 15 else sentEvents p

/-- READ_EVENTS's action (R196). -/
def actReadEvents (p : List Byte) (s : State) : State × Answer :=
  let u := s.events
  let u' := u.cleared (clearMask p)
  (s.setEvents u',
    .ok (bytesOf 2 u.bits.toNat ++ bytesOf 2 u.mask.toNat
      ++ [byteOf (packBits [decide (u.bits &&& 0x001F#15 ≠ 0), decide (u.bits &&& 0x7FE0#15 ≠ 0), u'.attention])]))

/-- SET_MASK's action (R197). -/
def actSetMask (p : List Byte) (s : State) : State × Answer :=
  let u' := s.events.masked (sentEvents p)
  (s.setEvents u', .ok (bytesOf 2 u'.mask.toNat ++ [flagByte u'.attention]))

/-- The counters and overflow flags in 49 bytes (R200). -/
def counterBytes (u : EventUnit) : List Byte :=
  u.counters.toList.flatMap (fun c => bytesOf 2 c.toNat) ++ bytesOf 3 u.overflow.toNat

/-- READ_COUNTERS's action (R200). -/
def actReadCounters (p : List Byte) (s : State) : State × Answer :=
  match byteAt p 0 with
  | 0 => (s, .ok (counterBytes s.events))
  | 1 => (s.setEvents s.events.countersCleared, .ok (counterBytes s.events))
  | _ => (s, .refuse .badArg)

/-- READ_EVENTS (R196). -/
def execReadEvents (s : State) : Host.Outcome State Fault Refusal := .next (handOn 0x38 actReadEvents s)

/-- SET_MASK (R197). -/
def execSetMask (s : State) : Host.Outcome State Fault Refusal := .next (handOn 0x39 actSetMask s)

/-- READ_COUNTERS (R200). -/
def execReadCounters (s : State) : Host.Outcome State Fault Refusal := .next (handOn 0x3A actReadCounters s)

end Sys2Proof.Machine
end

