-- ==== Sys2Proof/Machine/InputLink.lean ====
section
/-! DEFINITION. The Video Input Link: sorting of bytes, the receiver's states, headers and row blocks, and the commands
LINK_BYTE and LOSS_OF_SIGNAL (Chapter 2). -/

namespace Sys2Proof.Machine

/-! ## Reserved values (R17) -/

/-- S1, the first byte of the sync pattern. -/
def linkS1 : Byte := 0xD1
/-- S2, the second byte of the sync pattern. -/
def linkS2 : Byte := 0x5A
/-- The escape prefix. -/
def linkEsc : Byte := 0xDC
/-- The symbol that closes a frame. -/
def linkEnd : Byte := 0xDE
/-- The idle byte. -/
def linkFill : Byte := 0xDF

/-- The data byte an escape completed by `b` yields; any other completing byte is a symbol error (R17). -/
def linkUnescape (b : Byte) : Option Byte :=
  if b = 0xF1 ∨ b = 0xFC ∨ b = 0xFE ∨ b = 0xFF then some (b ^^^ 0x20) else none

/-- A symbol error: counted, a frame in reception is cut, and the receiver goes to HUNT (R17, R20, R25, R31, R35).  In
HEADER the bytes collected so far stay in the header-bytes item until S2 empties it (log entry 23). -/
def symbolError (s : State) : State :=
  let s := count .symbolErrors s
  toHunt (if s.input.state = .rows then cutFrame s else s)

/-! ## Judging a header -/

/-- Sequence and lock of an accepted header (R22). -/
def settleSequence (seq : BitVec 16) (s : State) : State :=
  let s := if s.input.firstFrame = false ∧ seq ≠ s.input.lastSeq + 1 then count .seqGaps s else s
  s.setInput { s.input with lastSeq := seq, firstFrame := false }

/-- An accepted header taken in STANDBY: discarded, counted, and perhaps a wake request (R23). -/
def headerInStandby (wakeFlag lockGained : Bool) (s : State) : State :=
  let s := toRx .discard (count .framesIgnored s)
  if wakeFlag && s.params.wakeOnFlag || lockGained && s.params.wakeOnLock then wakeDisplay s else s

/-- An accepted header taken in WAKING or ACTIVE opens a written frame (R24). -/
def openFrame (blank : Bool) (s : State) : State :=
  s.setInput { s.input with
    state := .rows, rowsDone := 0, mode := if blank then .blank else .written, position := .awaitingIndex, escape := false }

/-- A complete header is judged against the layout and the display state (R20 to R24). -/
def judgeHeader (h : List Byte) (s : State) : State :=
  let flags := h.getD 2 0
  let geometry := byteAt h 3
  if s.layout.status = .unset then toRx .discard (count .framesIgnored s)
  else if geometry % 16 ≠ s.layout.record.mc ∨ geometry / 16 ≠ s.layout.record.mr then
    toRx .discard (count .framesGeometry s)
  else
    let lock := s.input.firstFrame
    let s := settleSequence (BitVec.ofNat 16 (numberAt h 0 2)) s
    if s.scan.display = .standby then headerInStandby (flags.getLsbD 1) lock s else openFrame (flags.getLsbD 0) s

/-- A data byte in HEADER (R20). -/
def headerData (b : Byte) (s : State) : State :=
  let h := s.input.header ++ [b]
  let s := s.setInput { s.input with header := h }
  if h.length = 4 then judgeHeader h s else s

/-! ## Row blocks -/

/-- Whether the block in progress is written: a WRITTEN frame and a row of the grid (R26, R27). -/
def State.blockWritten (s : State) : Bool :=
  decide (s.input.mode = .written) && decide (s.input.blockRow.toNat < s.layout.height)

/-- Whether the block start supersedes content of the row (R27). -/
def Row.superseded (r : Row) : Bool := decide (r.pend ≠ .none) || decide (r.incoming = .good)

/-- The row at the start of a block for it (R27). -/
def Row.filling (r : Row) : Row := { r with incoming := .filling, pend := .none }

/-- The index byte of a row block (R25, R27). -/
def blockIndex (b : Byte) (s : State) : State :=
  let s := s.setInput { s.input with blockRow := b, blockSum := b, position := .inData 0, group := [] }
  if s.blockWritten then
    let s' := updateRow b.toNat Row.filling s
    if (s.store[b.toNat]?.map Row.superseded).getD false then count .rowsSuperseded s' else s'
  else s

/-- Value `j` of a group of five bytes: the number they form div 1024^j, mod 1024 (R26). -/
def groupValue (g : List Byte) (j : Nat) : Nat := numberAt g 0 5 / 1024 ^ j % 1024

/-- The four values of group `k` written into a row slot (R26). -/
def writeGroup (k : Nat) (g : List Byte) (t : Table Nat) : Table Nat :=
  [0, 1, 2, 3].foldl (fun t j => Table.hold 0 t (4 * k + j) (groupValue g j)) t

/-- A data byte of a row block, the one of index `n` (R25, R26). -/
def blockData (n : Nat) (b : Byte) (s : State) : State :=
  let g := s.input.group ++ [b]
  let full := decide (g.length = 5)
  let s := s.setInput { s.input with
    blockSum := s.input.blockSum + b
    group := if full then [] else g
    position := if n + 1 = 180 * s.layout.record.mc then .awaitingCheck else .inData (n + 1) }
  if full && s.blockWritten then
    updateRow s.input.blockRow.toNat (fun r => r.setTarget (writeGroup (n / 5) g r.target)) s
  else s

/-- The check byte of a row block ends it, GOOD or BAD (R25, R28). -/
def blockCheck (b : Byte) (s : State) : State :=
  let sum := s.input.blockSum + b
  let good := decide (sum = 0) && decide (s.input.blockRow.toNat < s.layout.height)
  let s := s.setInput { s.input with
    blockSum := sum, rowsDone := min 65535 (s.input.rowsDone + 1), position := .awaitingIndex }
  let s := if good then s else count .rowsBad s
  if s.blockWritten then
    updateRow s.input.blockRow.toNat (fun r => { r with incoming := if good then .good else .bad }) s
  else s

/-- A data byte in ROWS, by the block position (R25). -/
def rowsData (b : Byte) (s : State) : State :=
  match s.input.position with
  | .awaitingIndex => blockIndex b s
  | .inData n => blockData n b s
  | .awaitingCheck => blockCheck b s

/-! ## Symbols -/

/-- A data byte in HEADER or ROWS. -/
def linkData (b : Byte) (s : State) : State := if s.input.state = .rows then rowsData b s else headerData b s

/-- An S1 with no escape pending: every state goes to SYNC, and in ROWS the frame is first cut (R19, R20, R31, R34,
R35).  In HEADER the bytes of the abandoned header stay in the header-bytes item until S2 empties it (log entry 23). -/
def linkSync (s : State) : State := toRx .sync (if s.input.state = .rows then cutFrame s else s)

/-- An END with no escape pending in HEADER or ROWS (R20, R25, R30). -/
def linkEndSymbol (s : State) : State :=
  if s.input.state = .rows ∧ s.input.position = .awaitingIndex then closeFrame s else symbolError s

/-- The byte that completes an escape (R17); a completing S1 is then taken as an S1 in the state the error leaves. -/
def completeEscape (b : Byte) (s : State) : State :=
  let s := s.setInput { s.input with escape := false }
  match linkUnescape b with
  | some v => linkData v s
  | none => if b = linkS1 then linkSync (symbolError s) else symbolError s

/-- A byte in HEADER or ROWS is sorted (R17). -/
def sortByte (b : Byte) (s : State) : State :=
  if b = linkFill then s
  else if s.input.escape then completeEscape b s
  else if b = linkEsc then s.setInput { s.input with escape := true }
  else if b = linkS1 then linkSync s
  else if b = linkEnd then linkEndSymbol s
  else linkData b s

/-- A byte in SYNC (R19). -/
def syncByte (b : Byte) (s : State) : State :=
  if b = linkS2 then s.setInput { s.input with state := .header, header := [], escape := false }
  else if b = linkS1 ∨ b = linkFill then s
  else toHunt s

/-- A byte in GAP (R35). -/
def gapByte (b : Byte) (s : State) : State :=
  if b = linkFill then s else if b = linkS1 then linkSync s else symbolError s

/-- A byte of the link, taken by the rule of the receiver state. -/
def takeLinkByte (b : Byte) (s : State) : State :=
  match s.input.state with
  | .hunt => if b = linkS1 then linkSync s else s
  | .sync => syncByte b s
  | .header => sortByte b s
  | .rows => sortByte b s
  | .discard => if b = linkS1 then linkSync s else s
  | .gap => gapByte b s

/-- A loss of signal (R32). -/
def takeLossOfSignal (s : State) : State :=
  if s.input.state = .hunt then s
  else
    let s := raise .inputLost s
    toHunt (if s.input.state = .rows then cutFrame s else s)

/-! ## The commands -/

/-- LINK_BYTE (R17). -/
def execLinkByte (b : Byte) (s : State) : Host.Outcome State Fault Refusal := .next (takeLinkByte b s)

/-- LOSS_OF_SIGNAL (R32). -/
def execLossOfSignal (s : State) : Host.Outcome State Fault Refusal := .next (takeLossOfSignal s)

end Sys2Proof.Machine
end

