-- ==== Sys2Proof/Machine/LayoutCommands.lean ====
section
/-! DEFINITION. SET_LAYOUT and GET_LAYOUT (R8 to R14, R190). -/

namespace Sys2Proof.Machine

/-- Slot `i`'s fitted code in a SET_LAYOUT payload (R190). -/
def sentFitted (p : List Byte) (i : Fin 8) : Nat := byteAt p (2 + 4 * i.val)

/-- Slot `i`'s die type code in a SET_LAYOUT payload (R190). -/
def sentDieType (p : List Byte) (i : Fin 8) : Nat := byteAt p (3 + 4 * i.val)

/-- Slot `i`'s trim in a SET_LAYOUT payload (R190). -/
def sentTrim (p : List Byte) (i : Fin 8) : Nat := numberAt p (4 + 4 * i.val) 2

/-- The pass rate in a SET_LAYOUT payload (R190). -/
def sentPassRate (p : List Byte) : Nat := numberAt p 34 2

/-- The checks of R10 on one slot: VACANT, or FITTED with a known die type inside the message's own grid. -/
def slotAccepted (p : List Byte) (i : Fin 8) : Bool :=
  decide (sentFitted p i = 0) ||
    (decide (sentFitted p i = 1) && decide (sentDieType p i ≤ 1) && decide (i.val % 4 < byteAt p 0)
      && decide (i.val / 4 < byteAt p 1))

/-- The checks of R10. -/
def layoutAccepted (p : List Byte) : Bool :=
  decide (1 ≤ byteAt p 0 ∧ byteAt p 0 ≤ 4 ∧ 1 ≤ byteAt p 1 ∧ byteAt p 1 ≤ 2) && slotList.all (slotAccepted p)

/-- A value brought into a range. -/
def clampTo (low high n : Nat) : Nat := max low (min high n)

/-- The slot as R11 stores it. -/
def storedSlot (p : List Byte) (i : Fin 8) : SlotLayout :=
  if sentFitted p i = 1 then
    { fitted := true, dieType := if sentDieType p i = 1 then .single else .dual, trim := clampTo 192 320 (sentTrim p i) }
  else SlotLayout.vacant

/-- The record as R11 stores it. -/
def storedRecord (p : List Byte) : LayoutRecord :=
  { mc := byteAt p 0, mr := byteAt p 1, slots := perSlot (storedSlot p), passRate := clampTo 240 3840 (sentPassRate p) }

/-- The CLAMPED flag: a FITTED slot's trim or the pass rate was brought into range (R11). -/
def layoutClamped (p : List Byte) : Bool :=
  decide (clampTo 240 3840 (sentPassRate p) ≠ sentPassRate p) ||
    slotList.any fun i => decide (sentFitted p i = 1 ∧ clampTo 192 320 (sentTrim p i) ≠ sentTrim p i)

/-- The items of a slot as an accepted layout sets them (R12, R103, log entry 19). -/
def freshModule (l : Layout) (i : Fin 8) : ModuleItem :=
  { state := if l.fitted i then .online else .vacant, settle := 0, noAnswer := 0, probeCursor := none }

/-- The clears an accepted layout makes (R12, R103). -/
def layoutClears (s : State) : State :=
  let s := s.setMap { records := [], queue := [] }
  let s := s.setPlan Plan.clear
  let s := s.setScan { s.scan with liveSelect := [], liveBoost := [] }
  let s := blackenStore s
  s.setSense { s.sense with
    modules := perSlot (freshModule s.layout), patrol := 0, servicePos := none, probeTurn := none }

/-- An accepted layout is stored, and the tables it governs are cleared (R11, R12). -/
def acceptLayout (p : List Byte) (s : State) : State :=
  layoutClears (s.setLayout { status := .set, record := storedRecord p })

/-- SET_LAYOUT's action (R9 to R12). -/
def actSetLayout (p : List Byte) (s : State) : State × Answer :=
  if s.scan.display ≠ .standby then (s, .refuse .wrongState)
  else if !layoutAccepted p then (s, .refuse .badArg)
  else (acceptLayout p s, .ok (flagByte (layoutClamped p) :: layoutBytes (storedRecord p)))

/-- GET_LAYOUT's answer: the layout state, and the record while it is SET (R14, R190). -/
def actGetLayout (_ : List Byte) (s : State) : State × Answer :=
  match s.layout.status with
  | .unset => (s, .ok [byteOf LayoutStatus.unset.code])
  | .set => (s, .ok (byteOf LayoutStatus.set.code :: layoutBytes s.layout.record))

/-- SET_LAYOUT (R11). -/
def execSetLayout (s : State) : Host.Outcome State Fault Refusal := .next (handOn 0x03 actSetLayout s)

/-- GET_LAYOUT (R14). -/
def execGetLayout (s : State) : Host.Outcome State Fault Refusal := .next (handOn 0x04 actGetLayout s)

end Sys2Proof.Machine
end

