-- ==== Sys2Proof/Machine/LongCommands.lean ====
section
/-! DEFINITION. SURVEY, RETEST and HALT (R91, R92, R96, R98). -/

namespace Sys2Proof.Machine

/-- The region of a SURVEY or RETEST clipped to the grid (R91). -/
def clipRegion (l : Layout) (r : Region) : Region :=
  { r with x1 := min r.x1 (l.width - 1), y1 := min r.y1 (l.height - 1) }

/-- The colour set of a SURVEY or RETEST; bits beyond the three members are not looked at (R189, R190). -/
def sentColours (p : List Byte) : BitVec 3 := (p.getD 4 0).truncate 3

/-- The die set of a SURVEY or RETEST; bits beyond the two members are not looked at (R189, R190). -/
def sentDice (p : List Byte) : BitVec 2 := (p.getD 5 0).truncate 2

/-- The argument checks of R91: order of corners, a region not empty after clipping, sets not empty. -/
def scopeAccepted (l : Layout) (p : List Byte) : Bool :=
  let r := regionAt p 0
  let c := clipRegion l r
  decide (r.x0 ≤ r.x1 ∧ r.y0 ≤ r.y1 ∧ c.x0 ≤ c.x1 ∧ c.y0 ≤ c.y1) && decide (sentColours p ≠ 0)
    && decide (sentDice p ≠ 0)

/-- The judging of a SURVEY or RETEST message, in the order of R91; none when it is accepted. -/
def longRefusal (p : List Byte) (s : State) : Option Status :=
  if s.layout.status = .unset then some .wrongState
  else if s.scan.display = .standby then some .wrongState
  else if s.sense.long.running then some .busy
  else if !scopeAccepted s.layout p then some .badArg
  else none

/-- The slot as an accepted command of a kind fills it: RUNNING, outcome none, the scope, every count 0 (R92, R96). -/
def startedLong (kind : LongKind) (p : List Byte) (s : State) : LongSlot :=
  { LongSlot.idle with
    running := true, kind := kind, region := clipRegion s.layout (regionAt p 0), colours := sentColours p, dice := sentDice p }

/-- The reply data both commands share: the clipped region and the CLAMPED flag (R91, R191). -/
def scopeReply (p : List Byte) (s : State) : List Byte :=
  let r := regionAt p 0
  let c := clipRegion s.layout r
  regionBytes c ++ [flagByte (decide (c ≠ r))]

/-- SURVEY's action (R92). -/
def actSurvey (p : List Byte) (s : State) : State × Answer :=
  match longRefusal p s with
  | some st => (s, .refuse st)
  | none =>
    let l := startedLong .survey p s
    (setLong { l with cursor := nextInScope l.region l.colours l.dice 0 } s, .ok (scopeReply p s))

/-- Whether a RETEST of this scope takes a record: in scope, CONFIRMED, of source SENSED or LOADED (R96). -/
def retestTakes (l : LongSlot) (e : Nat × DefectRecord) : Bool :=
  inScope l.region l.colours l.dice e.1 && decide (e.2.state = .confirmed) && decide (e.2.source ≠ .hostPin)

/-- One record is turned to RETEST with a fresh window, and RETEST_BEGUN is announced (R115). -/
def beginRetest (s : State) (die : Nat) : State :=
  match Table.fetch s.map.records die with
  | none => s
  | some r => announce .retestBegun die r.fault false false (putRecord die (r.enter .retest s.scan.passNumber) s)

/-- RETEST's action: the records in scope are turned; with none to turn the command ends COMPLETE at once (R96). -/
def actRetest (p : List Byte) (s : State) : State × Answer :=
  match longRefusal p s with
  | some st => (s, .refuse st)
  | none =>
    let l := startedLong .retest p s
    let dies := Table.keys (s.map.records.filter (retestTakes l))
    let s' := setLong { l with begun := dies.length } (dies.foldl beginRetest s)
    let s' := if dies.length = 0 then raise .longDone (endLong .complete s') else s'
    (s', .ok (scopeReply p s ++ bytesOf 2 dies.length ++ [byteOf s'.sense.long.outcome.code]))

/-- The counts a HALT reports after it has ended a command (R98, R191). -/
def haltedCounts (l : LongSlot) : List Byte :=
  match l.kind with
  | .none => []
  | .survey => bytesOf 3 l.tested ++ bytesOf 3 l.skipped ++ bytesOf 3 l.faults
  | .retest =>
    bytesOf 2 l.begun ++ bytesOf 2 l.restored ++ bytesOf 2 l.reconfirmed ++ bytesOf 2 l.withdrawn ++ bytesOf 2 l.abandoned

/-- HALT's action (R98). -/
def actHalt (_ : List Byte) (s : State) : State × Answer :=
  if s.sense.long.running then
    let s' := raise .longDone (stopLong .halted s)
    let l := s'.sense.long
    (s', .ok (1 :: byteOf l.kind.code :: byteOf l.outcome.code :: haltedCounts l))
  else (s, .ok [0, byteOf s.sense.long.kind.code, byteOf s.sense.long.outcome.code])

/-- SURVEY (R92). -/
def execSurvey (s : State) : Host.Outcome State Fault Refusal := .next (handOn 0x10 actSurvey s)

/-- RETEST (R96). -/
def execRetest (s : State) : Host.Outcome State Fault Refusal := .next (handOn 0x11 actRetest s)

/-- HALT (R98). -/
def execHalt (s : State) : Host.Outcome State Fault Refusal := .next (handOn 0x12 actHalt s)

end Sys2Proof.Machine
end

