-- ==== Sys2Proof/Machine/MapCommands.lean ====
section
/-! DEFINITION. PIN, UNPIN, RESTORE, READ_MAP and READ_TRANSITIONS (R121 to R125, R128). -/

namespace Sys2Proof.Machine

/-- The die index a payload opens with, in three bytes (R189). -/
def sentIndex (p : List Byte) : Nat := numberAt p 0 3

/-- The record of a die after a command, in 13 bytes (R122, R124). -/
def replyRecord (die : Nat) (s : State) : List Byte :=
  match Table.fetch s.map.records die with
  | none => []
  | some r => recordBytes die r

/-- A record as a command creates it: no window, both pass numbers the current pass (R122, R124). -/
def hostRecord (x : RecordState) (f : DieFault) (src : RecordSource) (now : PassNumber) : DefectRecord :=
  { state := x, fault := f, hits := 0, passes := 0, firstPass := now, statePass := now, source := src }

/-! ## PIN -/

/-- The pinned state of a pin kind's code: DEAD 0, GOOD 1 (R189). -/
def pinState (code : Nat) : Option RecordState :=
  match code with
  | 0 => some .pinnedDead
  | 1 => some .pinnedGood
  | _ => none

/-- A pin on a die that has a record (R122). -/
def pinRecord (die : Nat) (x : RecordState) (r : DefectRecord) (s : State) : State :=
  if r.state = x then s
  else
    announce .pinned die r.fault (r.state.dead != x.dead) (decide (r.state = .retest))
      (putRecord die { r.enter x s.scan.passNumber with source := .hostPin } s)

/-- An accepted PIN (R122). -/
def acceptPin (die : Nat) (x : RecordState) (s : State) : State × Answer :=
  match Table.fetch s.map.records die with
  | some r =>
    let s' := pinRecord die x r s
    (s', .ok (replyRecord die s'))
  | none =>
    match makeRoom s with
    | none => (s, .refuse .noRoom)
    | some s1 =>
      let s' := announce .pinned die .none x.dead false (putRecord die (hostRecord x .none .hostPin s1.scan.passNumber) s1)
      (s', .ok (replyRecord die s'))

/-- PIN's action, checked in the order of R121. -/
def actPin (p : List Byte) (s : State) : State × Answer :=
  if s.layout.status = .unset then (s, .refuse .wrongState)
  else if !s.layout.presentDie (sentIndex p) then (s, .refuse .badArg)
  else match pinState (byteAt p 3) with
    | none => (s, .refuse .badArg)
    | some x => acceptPin (sentIndex p) x s

/-! ## UNPIN -/

/-- UNPIN's action (R123). -/
def actUnpin (p : List Byte) (s : State) : State × Answer :=
  if s.layout.status = .unset then (s, .refuse .notFound)
  else if !s.layout.presentDie (sentIndex p) then (s, .refuse .badArg)
  else match Table.fetch s.map.records (sentIndex p) with
    | none => (s, .refuse .notFound)
    | some r =>
      if !r.state.isPinned then (s, .refuse .wrongState)
      else (announce .unpinned (sentIndex p) r.fault r.state.dead false (dropRecord (sentIndex p) s), .ok [])

/-! ## RESTORE -/

/-- The fault a RESTORE may carry: OPEN or SHORT (R124, R189). -/
def restoreFault (code : Nat) : Option DieFault :=
  match code with
  | 1 => some .opened
  | 2 => some .shorted
  | _ => none

/-- A RESTORE on a SUSPECT or RETEST record (R124). -/
def loadRecord (die : Nat) (f : DieFault) (r : DefectRecord) (s : State) : State :=
  announce .loaded die f (!r.state.dead) (decide (r.state = .retest))
    (putRecord die { r.enter .confirmed s.scan.passNumber with fault := f, source := .loaded } s)

/-- An accepted RESTORE (R124). -/
def acceptRestore (die : Nat) (f : DieFault) (s : State) : State × Answer :=
  match Table.fetch s.map.records die with
  | some r =>
    match r.state with
    | .pinnedDead | .pinnedGood => (s, .refuse .wrongState)
    | .confirmed => (s, .ok (replyRecord die s))
    | .suspect | .retest =>
      let s' := loadRecord die f r s
      (s', .ok (replyRecord die s'))
  | none =>
    match makeRoom s with
    | none => (s, .refuse .noRoom)
    | some s1 =>
      let s' := announce .loaded die f true false (putRecord die (hostRecord .confirmed f .loaded s1.scan.passNumber) s1)
      (s', .ok (replyRecord die s'))

/-- RESTORE's action, checked in the order of R124. -/
def actRestore (p : List Byte) (s : State) : State × Answer :=
  if s.layout.status = .unset then (s, .refuse .wrongState)
  else if !s.layout.presentDie (sentIndex p) then (s, .refuse .badArg)
  else match restoreFault (byteAt p 3) with
    | none => (s, .refuse .badArg)
    | some f => acceptRestore (sentIndex p) f s

/-! ## Reading -/

/-- The next index of a walk: one more than the last key returned while some key lies beyond the returned ones, else
none (R125, R155). -/
def nextIndex (returned rest : List Nat) : Option Nat :=
  match returned.getLast?, rest with
  | some k, _ :: _ => some (k + 1)
  | _, _ => none

/-- READ_MAP's answer (R125). -/
def actReadMap (p : List Byte) (s : State) : State × Answer :=
  if Config.dieCount ≤ sentIndex p then (s, .refuse .badArg)
  else
    let found : Table DefectRecord := s.map.records.filter fun e => decide (sentIndex p ≤ e.1)
    let given := found.take 4
    (s, .ok (bytesOf 2 s.map.records.length ++ indexBytes (nextIndex (Table.keys given) (Table.keys (found.drop 4)))
      ++ given.flatMap fun e => recordBytes e.1 e.2))

/-- READ_TRANSITIONS's action (R128). -/
def actReadTransitions (_ : List Byte) (s : State) : State × Answer :=
  let rest := s.map.queue.drop 6
  (s.setMap { s.map with queue := rest },
    .ok (byteOf rest.length :: (s.map.queue.take 6).flatMap transitionBytes))

/-! ## The commands -/

/-- PIN (R122). -/
def execPin (s : State) : Host.Outcome State Fault Refusal := .next (handOn 0x18 actPin s)

/-- UNPIN (R123). -/
def execUnpin (s : State) : Host.Outcome State Fault Refusal := .next (handOn 0x19 actUnpin s)

/-- RESTORE (R124). -/
def execRestore (s : State) : Host.Outcome State Fault Refusal := .next (handOn 0x1A actRestore s)

/-- READ_MAP (R125). -/
def execReadMap (s : State) : Host.Outcome State Fault Refusal := .next (handOn 0x20 actReadMap s)

/-- READ_TRANSITIONS (R128). -/
def execReadTransitions (s : State) : Host.Outcome State Fault Refusal := .next (handOn 0x21 actReadTransitions s)

end Sys2Proof.Machine
end

