-- ==== Sys2Proof/Machine/PlanCommands.lean ====
section
/-! DEFINITION. READ_PLAN (R155, R191). -/

namespace Sys2Proof.Machine

/-- The channels that any plan table, live table or mark lists, in ascending order. -/
def State.listedChannels (s : State) : List Nat :=
  Table.keys (IndexSet.addAll [] (s.plan.select.keys ++ s.scan.liveSelect.keys ++ s.plan.boost.keys
    ++ s.scan.liveBoost.keys ++ s.plan.edited.keys ++ s.plan.shortfall.keys ++ s.plan.deferred.keys))

/-- Whether a channel is of interest (R155). -/
def State.ofInterest (s : State) (n : Nat) : Bool :=
  s.layout.presentChannel n &&
    (decide (s.plan.selectOf n ≠ .a) || decide (s.scan.selectOf n ≠ .a) || (s.plan.entryOf n).isSome
      || (s.scan.entryOf n).isSome || IndexSet.has s.plan.edited n || IndexSet.has s.plan.shortfall n
      || IndexSet.has s.plan.deferred n)

/-- A plan entry in 14 bytes (R191). -/
def planEntryBytes (s : State) (n : Nat) : List Byte :=
  let pe := (s.plan.entryOf n).getD BoostEntry.empty
  let le := (s.scan.entryOf n).getD BoostEntry.empty
  bytesOf 2 n ++ [selectByte (s.plan.selectOf n) (s.scan.selectOf n),
      byteOf (packBits [IndexSet.has s.plan.edited n, IndexSet.has s.plan.shortfall n, IndexSet.has s.plan.deferred n]),
      directionSet pe, directionSet le]
    ++ shareBytes pe ++ shareBytes le

/-- READ_PLAN's answer (R155). -/
def actReadPlan (p : List Byte) (s : State) : State × Answer :=
  if Config.channelCount ≤ sentIndex p then (s, .refuse .badArg)
  else
    let found := s.listedChannels.filter fun n => decide (sentIndex p ≤ n) && s.ofInterest n
    let given := found.take 2
    (s, .ok (indexBytes (nextIndex given (found.drop 2)) ++ given.flatMap (planEntryBytes s)))

/-- READ_PLAN (R155). -/
def execReadPlan (s : State) : Host.Outcome State Fault Refusal := .next (handOn 0x22 actReadPlan s)

end Sys2Proof.Machine
end

