-- ==== Sys2Proof/Machine/SettingsCommands.lean ====
section
/-! DEFINITION. SET_PARAMS, GET_PARAMS, IDENTIFY and GET_STATUS (R182 to R186, R191). -/

namespace Sys2Proof.Machine

/-! ## Parameters -/

/-- The parameter set a payload carries, each field brought into range (R183, R190). -/
def storedParams (p : List Byte) : Params :=
  let w := clampTo 2 15 (byteAt p 0)
  let flags := p.getD 6 0
  { w := w, c := clampTo 1 w (byteAt p 1), f := min 100 (byteAt p 2), b := clampTo 1 8 (byteAt p 3),
    l := numberAt p 4 2, wakeOnLock := flags.getLsbD 0, wakeOnFlag := flags.getLsbD 1, autoStandby := flags.getLsbD 2 }

/-- The CLAMPED flag: some field was brought into range (R183). -/
def paramsClamped (p : List Byte) : Bool :=
  let q := storedParams p
  decide (q.w ≠ byteAt p 0 ∨ q.c ≠ byteAt p 1 ∨ q.f ≠ byteAt p 2 ∨ q.b ≠ byteAt p 3)

/-- SET_PARAMS's action; a changed F starts its round before the reply is formed (R183). -/
def actSetParams (p : List Byte) (s : State) : State × Answer :=
  let q := storedParams p
  let s' := s.setParams q
  (if q.f = s.params.f then s' else fractionRound s', .ok (flagByte (paramsClamped p) :: paramBytes q))

/-- GET_PARAMS's answer (R184). -/
def actGetParams (_ : List Byte) (s : State) : State × Answer := (s, .ok (paramBytes s.params))

/-! ## Identity -/

/-- IDENTIFY's answer: part code 0x3260, revision 1 and the capacities (R186, R191). -/
def actIdentify (_ : List Byte) (s : State) : State × Answer :=
  (s, .ok (bytesOf 2 0x3260 ++ [1] ++ bytesOf 2 Config.mapCapacity ++ bytesOf 2 Config.boostCapacity
    ++ [byteOf Config.transitionCapacity, byteOf Config.messageCapacity, 8]))

/-! ## Status sections (R185, R191) -/

/-- INPUT (R36). -/
def inputSection (s : State) : List Byte :=
  [byteOf s.input.state.code] ++ bytesOf 2 s.input.rowsDone ++ bytesOf 2 s.input.lastSeq.toNat
    ++ bytesOf 2 (s.events.counter .framesClosed).toNat

/-- STORE (R50). -/
def storeSection (s : State) : List Byte :=
  [byteOf s.layout.height, byteOf s.rowsBlanked, byteOf s.rowsPending]

/-- The number of present channels whose select in the table is OFF (R75, R156). -/
def State.offChannels (s : State) (t : Table Select) : Nat :=
  (t.filter fun e => decide (e.2 = .off) && s.layout.presentChannel e.1).length

/-- DISPLAY (R75). -/
def displaySection (s : State) : List Byte :=
  [byteOf s.scan.display.code, flagByte (decide (s.scan.standby ≠ .none)), byteOf s.scan.wakingLeft]
    ++ bytesOf 4 s.scan.passNumber.toNat ++ bytesOf 2 (s.offChannels s.scan.liveSelect)
    ++ bytesOf 2 s.scan.liveBoost.length

/-- The number of tests in the gap list still outstanding (R101). -/
def State.testsOutstanding (s : State) : Nat := (s.sense.gap.filter GapEntry.outstanding).length

/-- SENSE (R101). -/
def senseSection (s : State) : List Byte :=
  slotList.flatMap (fun i => [byteOf (s.moduleState i).code, byteOf s.sense.modules[i].settle])
    ++ bytesOf 3 s.sense.patrol ++ [byteOf s.testsOutstanding]

/-- The number of records in a state (R129). -/
def State.recordsIn (s : State) (x : RecordState) : Nat := (s.map.records.filter fun e => decide (e.2.state = x)).length

/-- The scope of a long command: outcome, region, colour set and die set (R100). -/
def scopeBytes (l : LongSlot) : List Byte :=
  byteOf l.outcome.code :: regionBytes l.region ++ [byteOf l.colours.toNat, byteOf l.dice.toNat]

/-- LONG (R100). -/
def longSection (s : State) : List Byte :=
  let l := s.sense.long
  [flagByte l.running, byteOf l.kind.code] ++
    match l.kind with
    | .none => []
    | .survey =>
      scopeBytes l ++ indexBytes l.cursor ++ bytesOf 3 l.tested ++ bytesOf 3 l.skipped ++ bytesOf 3 l.faults
    | .retest =>
      scopeBytes l ++ bytesOf 2 l.begun ++ bytesOf 2 l.restored ++ bytesOf 2 l.reconfirmed ++ bytesOf 2 l.withdrawn
        ++ bytesOf 2 l.abandoned ++ bytesOf 2 (s.recordsIn .retest)

/-- MAP (R129). -/
def mapSection (s : State) : List Byte :=
  bytesOf 2 s.map.records.length ++ bytesOf 2 (s.recordsIn .suspect) ++ bytesOf 2 (s.recordsIn .confirmed)
    ++ bytesOf 2 (s.recordsIn .retest) ++ bytesOf 2 (s.recordsIn .pinnedDead) ++ bytesOf 2 (s.recordsIn .pinnedGood)
    ++ [byteOf s.map.queue.length]

/-- PLAN (R156). -/
def planSection (s : State) : List Byte :=
  bytesOf 2 (s.offChannels s.plan.select) ++ bytesOf 2 s.plan.boost.length ++ bytesOf 2 s.plan.shortfall.length
    ++ bytesOf 2 s.plan.deferred.length ++ bytesOf 2 s.plan.edited.length

/-- CAPTURE (R171). -/
def captureSection (s : State) : List Byte :=
  let c := s.capture
  [byteOf c.state.code, byteOf c.arming.combine.code,
    byteOf (packBits [decide (c.arming.kinds ≠ 0), c.arming.place.isSome, c.arming.autoRearm, c.snapshot.isSome]),
    c.arming.holdMask, c.held]

/-- The fields of a status section by its code (R185). -/
def statusSection (s : State) : Nat → Option (List Byte)
  | 0 => some (inputSection s)
  | 1 => some (storeSection s)
  | 2 => some (displaySection s)
  | 3 => some (senseSection s)
  | 4 => some (longSection s)
  | 5 => some (mapSection s)
  | 6 => some (planSection s)
  | 7 => some (captureSection s)
  | _ => none

/-- GET_STATUS's answer (R185). -/
def actGetStatus (p : List Byte) (s : State) : State × Answer :=
  match statusSection s (byteAt p 0) with
  | none => (s, .refuse .badArg)
  | some fields => (s, .ok (p.getD 0 0 :: byteOf s.layout.status.code :: fields))

/-! ## The commands -/

/-- SET_PARAMS (R183). -/
def execSetParams (s : State) : Host.Outcome State Fault Refusal := .next (handOn 0x05 actSetParams s)

/-- GET_PARAMS (R184). -/
def execGetParams (s : State) : Host.Outcome State Fault Refusal := .next (handOn 0x06 actGetParams s)

/-- IDENTIFY (R186). -/
def execIdentify (s : State) : Host.Outcome State Fault Refusal := .next (handOn 0x01 actIdentify s)

/-- GET_STATUS (R185). -/
def execGetStatus (s : State) : Host.Outcome State Fault Refusal := .next (handOn 0x02 actGetStatus s)

end Sys2Proof.Machine
end

