-- ==== Sys2Proof/Machine/Dispatch.lean ====
section
/-! DEFINITION. The meaning of every command: one arm per constructor of `Instr`. -/

namespace Sys2Proof.Machine

/-- The effect of a command on everything but the queue of waiting commands. -/
def exec (i : Instr) (s : State) : Host.Outcome State Fault Refusal :=
  match i with
  | .powerOn => Sys2Proof.Machine.execPowerOn s
  | .controlCharacter ch stopBit => Sys2Proof.Machine.execControlCharacter ch stopBit s
  | .replySent => Sys2Proof.Machine.execReplySent s
  | .unknownKind => Sys2Proof.Machine.execUnknownKind s
  | .identify => Sys2Proof.Machine.execIdentify s
  | .getStatus => Sys2Proof.Machine.execGetStatus s
  | .setLayout => Sys2Proof.Machine.execSetLayout s
  | .getLayout => Sys2Proof.Machine.execGetLayout s
  | .setParams => Sys2Proof.Machine.execSetParams s
  | .getParams => Sys2Proof.Machine.execGetParams s
  | .survey => Sys2Proof.Machine.execSurvey s
  | .retest => Sys2Proof.Machine.execRetest s
  | .halt => Sys2Proof.Machine.execHalt s
  | .pin => Sys2Proof.Machine.execPin s
  | .unpin => Sys2Proof.Machine.execUnpin s
  | .restore => Sys2Proof.Machine.execRestore s
  | .readMap => Sys2Proof.Machine.execReadMap s
  | .readTransitions => Sys2Proof.Machine.execReadTransitions s
  | .readPlan => Sys2Proof.Machine.execReadPlan s
  | .armCapture => Sys2Proof.Machine.execArmCapture s
  | .disarm => Sys2Proof.Machine.execDisarm s
  | .readCapture => Sys2Proof.Machine.execReadCapture s
  | .releaseHold => Sys2Proof.Machine.execReleaseHold s
  | .standby => Sys2Proof.Machine.execStandby s
  | .wake => Sys2Proof.Machine.execWake s
  | .restart => Sys2Proof.Machine.execRestart s
  | .readEvents => Sys2Proof.Machine.execReadEvents s
  | .setMask => Sys2Proof.Machine.execSetMask s
  | .readCounters => Sys2Proof.Machine.execReadCounters s
  | .linkByte b => Sys2Proof.Machine.execLinkByte b s
  | .lossOfSignal => Sys2Proof.Machine.execLossOfSignal s
  | .lightRow => Sys2Proof.Machine.execLightRow s
  | .passEnd => Sys2Proof.Machine.execPassEnd s
  | .gapEnd => Sys2Proof.Machine.execGapEnd s
  | .gapTestAnswer test result hot => Sys2Proof.Machine.execGapTestAnswer test result hot s
  | .liveShortReport die => Sys2Proof.Machine.execLiveShortReport die s

end Sys2Proof.Machine
end

