-- ==== Sys2Proof/Safety.lean ====
section
/-! DEFINITION. The terms the claims use: which blocks a command may change, and the invariants every step keeps. -/

namespace Sys2Proof.Machine

/-! ## Frames -/

/-- The blocks of the state (00_scope.md 0.3), the parameters and the layout apart from them. -/
inductive Block where
  | pending
  | layout
  | input
  | store
  | scan
  | sense
  | map
  | plan
  | capture
  | control
  | params
  | events
  deriving DecidableEq, Repr

/-- Two states agree on a block. -/
def Block.same : Block → State → State → Prop
  | .pending, s, t => t.pending = s.pending
  | .layout, s, t => t.layout = s.layout
  | .input, s, t => t.input = s.input
  | .store, s, t => t.store = s.store
  | .scan, s, t => t.scan = s.scan
  | .sense, s, t => t.sense = s.sense
  | .map, s, t => t.map = s.map
  | .plan, s, t => t.plan = s.plan
  | .capture, s, t => t.capture = s.capture
  | .control, s, t => t.control = s.control
  | .params, s, t => t.params = s.params
  | .events, s, t => t.events = s.events

/-- Going from `s` to `t`, no block outside `bs` changes. -/
def OnlyChanges (bs : List Block) (s t : State) : Prop := ∀ b : Block, b ∉ bs → b.same s t

/-- What a transition of a die's record may bring about beyond the map: the planner's round, a capture's match, the
long-command slot, events (R108). -/
def dieBlocks : List Block := [.map, .plan, .capture, .sense, .events]

/-- The blocks each command may change: those whose rules name it. -/
def ownedBlocks : Instr → List Block
  | .powerOn => [.layout, .input, .store, .scan, .sense, .map, .plan, .capture, .control, .params, .events]
  | .controlCharacter _ _ => [.control, .events]
  | .replySent | .unknownKind | .identify | .getStatus | .getLayout | .getParams | .readMap | .readPlan | .readCapture =>
    [.control]
  | .setLayout => [.layout, .store, .scan, .sense, .map, .plan, .control]
  | .setParams => [.params, .plan, .events, .control]
  | .survey => [.sense, .control]
  | .retest | .halt | .pin | .unpin | .restore => .control :: dieBlocks
  | .readTransitions => [.map, .control]
  | .armCapture | .disarm => [.capture, .control]
  | .releaseHold => [.capture, .plan, .events, .control]
  | .standby => [.scan, .control]
  | .wake => [.scan, .store, .plan, .events, .control]
  | .restart => [.capture, .scan, .input, .store, .sense, .map, .plan, .events, .control]
  | .readEvents | .setMask | .readCounters => [.events, .control]
  | .linkByte _ => [.input, .store, .scan, .plan, .events]
  | .lossOfSignal => [.input, .store, .events]
  | .lightRow => [.scan, .events]
  | .passEnd => [.scan, .input, .store, .control] ++ dieBlocks
  | .gapEnd => [.scan, .store, .plan, .sense, .events]
  | .gapTestAnswer _ _ _ => dieBlocks
  | .liveShortReport _ => .scan :: dieBlocks

/-! ## Messages, replies and runs -/

/-- `m` heads the message queue with `rest` behind it, and the two conditions for handing it on hold (R178). -/
def Handing (s : State) (m : Message) (rest : List Message) : Prop :=
  s.control.inHand = false ∧ s.control.replies.length < 4 ∧ s.control.queue = m :: rest

/-- The Control Port of `t` is that of `s` after a reply to `m` was formed: the message has left the queue, none is in
hand, and the reply, with the message's kind plus 0x80 and its tag, stands at the tail of the reply buffer (R178, R179). -/
def Answered (s t : State) (m : Message) (rest : List Message) (payload : List Byte) : Prop :=
  t.control = { s.control with
    queue := rest, inHand := false,
    replies := s.control.replies ++ [{ kind := m.kind + 0x80, tag := m.tag, payload := payload }] }

/-- Command `c` answers message `m` with status `st` alone and changes nothing else (R180). -/
def Refused (c : Instr) (s : State) (m : Message) (rest : List Message) (st : Byte) : Prop :=
  ∃ t, exec c s = .next t ∧ Answered s t m rest [st] ∧ OnlyChanges [.control] s t

/-- The kinds of R181: the command that hands the message on, the kind's code and the payload lengths it allows. -/
def messageKinds : List (Instr × Byte × List Nat) :=
  [(.identify, 0x01, [0]), (.getStatus, 0x02, [1]), (.setLayout, 0x03, [36]), (.getLayout, 0x04, [0]),
   (.setParams, 0x05, [7]), (.getParams, 0x06, [0]), (.survey, 0x10, [6]), (.retest, 0x11, [6]), (.halt, 0x12, [0]),
   (.pin, 0x18, [4]), (.unpin, 0x19, [3]), (.restore, 0x1A, [4]), (.readMap, 0x20, [3]), (.readTransitions, 0x21, [0]),
   (.readPlan, 0x22, [3]), (.armCapture, 0x28, [10]), (.disarm, 0x29, [0]), (.readCapture, 0x2A, [0]),
   (.releaseHold, 0x2B, [0]), (.standby, 0x30, [0]), (.wake, 0x31, [0]), (.restart, 0x32, [0]),
   (.readEvents, 0x38, [0, 2]), (.setMask, 0x39, [2]), (.readCounters, 0x3A, [1])]

/-- The characters that carry a content on the control line: START, each reserved byte as ESC and the byte XOR 0x10,
END (R175). -/
def frameCharacters (content : List Byte) : List Byte :=
  0xF0 :: content.flatMap (fun b => if b = 0xF0 ∨ b = 0xF1 ∨ b = 0xF2 then [0xF2, b ^^^ 0x10] else [b]) ++ [0xF1]

/-- The sum of a content's bytes, mod 256 (R176). -/
def sumOf (content : List Byte) : Byte := content.foldl (· + ·) 0

/-- Taking the commands in turn leads from `s` to `t`. -/
def Runs : List Instr → State → State → Prop
  | [], s, t => t = s
  | c :: cs, s, t => ∃ u, exec c s = .next u ∧ Runs cs u t

/-- Whether an answer for a die that is not pinned reaches the Defect Map (R85 step 5): OK and SHORT always do, and an OPEN
does when its module was ONLINE with settle 0 and the answer's HOT flag is clear, so that the module is then neither HOT nor
settling (R85 step 4, R88, R89). -/
def HandsOn (s : State) (die : Nat) (o : TestAnswer) (hot : Bool) : Prop :=
  let m := s.sense.modules[slotOfChannel (dieChannel die)]
  m.state ≠ .vacant ∧ (o ≠ .opened ∨ (m.state = .online ∧ m.settle = 0 ∧ hot = false))

/-- The Transition Queue after the entries `new` were appended in turn, each append to a full queue discarding the
oldest entry (R127). -/
def appended (q new : List Transition) : List Transition := (q ++ new).drop (q.length + new.length - 64)

/-- `l` lists the first items, by their rank, of those that satisfy `ok`: up to `k` of them, in the order of their ranks. -/
def FirstOf {α : Type} (rank : α → Nat) (ok : α → Prop) (k : Nat) (l : List α) : Prop :=
  l.Pairwise (fun a b => rank a < rank b) ∧ (∀ a ∈ l, ok a) ∧ l.length ≤ k ∧
    ∀ a, ok a → a ∉ l → l.length = k ∧ ∀ b ∈ l, rank b < rank a

/-! ## Invariants -/

/-- The attention line is asserted exactly when some set event bit is unmasked (R195). -/
def AttentionFollows (s : State) : Prop :=
  s.events.attention = true ↔ ∃ e : Event, s.events.pends e = true ∧ s.events.mask.getLsbD e.bit = false

/-- Every table lists its keys in strictly ascending order and lists no default: no select A, no entry without a
boost, no value 0 (log entry 8).  Every value of a row slot lies in 0..1023 (R39). -/
def TablesCanonical (s : State) : Prop :=
  Table.canonical s.map.records = true ∧ Table.canonical s.plan.select = true ∧ Table.canonical s.plan.boost = true
    ∧ Table.canonical s.plan.edited = true ∧ Table.canonical s.plan.shortfall = true
    ∧ Table.canonical s.plan.deferred = true ∧ Table.canonical s.scan.liveSelect = true
    ∧ Table.canonical s.scan.liveBoost = true
    ∧ (∀ r ∈ s.store, Table.canonical r.slot0 = true ∧ Table.canonical r.slot1 = true)
    ∧ (∀ e ∈ s.plan.select, e.2 ≠ .a) ∧ (∀ e ∈ s.scan.liveSelect, e.2 ≠ .a)
    ∧ (∀ e ∈ s.plan.boost, e.2 ≠ BoostEntry.empty) ∧ (∀ e ∈ s.scan.liveBoost, e.2 ≠ BoostEntry.empty)
    ∧ ∀ r ∈ s.store, ∀ e ∈ r.slot0 ++ r.slot1, 0 < e.2 ∧ e.2 ≤ 1023

/-- No queue, buffer or table holds more than its capacity (R104, R127, R133, R174, R177, R178). -/
def WithinCapacity (s : State) : Prop :=
  s.map.records.length ≤ 1024 ∧ s.map.queue.length ≤ 64 ∧ s.plan.boost.length ≤ 2048 ∧ s.control.queue.length ≤ 4
    ∧ s.control.replies.length ≤ 4 ∧ s.control.content.length ≤ 63

/-- The live Boost Table holds at most 2048 entries (R59). -/
def LiveWithinCapacity (s : State) : Prop := s.scan.liveBoost.length ≤ 2048

/-- Wherever no edit waits, the live tables hold what the Pending Plan holds (R58). -/
def LiveFollowsPlan (s : State) : Prop :=
  ∀ n : Nat, IndexSet.has s.plan.edited n = false →
    s.scan.selectOf n = s.plan.selectOf n ∧ s.scan.entryOf n = s.plan.entryOf n

/-- No channel whose select is OFF holds a boost entry, in either copy (R59, R133). -/
def OffHoldsNoEntry (s : State) : Prop :=
  (∀ n : Nat, s.plan.selectOf n = .off → s.plan.entryOf n = none)
    ∧ ∀ n : Nat, s.scan.selectOf n = .off → s.scan.entryOf n = none

/-- The parameters lie in their ranges (R182). -/
def ParamsInRange (s : State) : Prop :=
  2 ≤ s.params.w ∧ s.params.w ≤ 15 ∧ 1 ≤ s.params.c ∧ s.params.c ≤ s.params.w ∧ s.params.f ≤ 100
    ∧ 1 ≤ s.params.b ∧ s.params.b ≤ 8 ∧ s.params.l ≤ 65535

/-- The shares in a Boost Table that are aimed at channel `n`, summed over its four neighbours (R133, R136). -/
def Layout.sharesAt (l : Layout) (t : Table BoostEntry) (n : Nat) : Nat :=
  (directions.map fun d =>
    match l.neighbour n d with
    | none => 0
    | some m => ((Table.fetch t m).bind fun e => e.share d.opposite).getD 0).sum

/-- Each boost has a share of 1 to 256, and the shares aimed at any one channel, summed over its donors, never exceed 256,
in either copy (R59, R133). -/
def SharesBounded (s : State) : Prop :=
  (∀ n : Nat, s.layout.sharesAt s.plan.boost n ≤ 256 ∧ s.layout.sharesAt s.scan.liveBoost n ≤ 256)
    ∧ ∀ (n : Nat) (e : BoostEntry), s.plan.entryOf n = some e ∨ s.scan.entryOf n = some e →
      ∀ (d : Direction) (share : Nat), e.share d = some share → 1 ≤ share ∧ share ≤ 256

/-- A layout record as R10 and R11 leave it, every field in its range and every FITTED slot inside the grid and every VACANT
one held at DUAL and 256, and rows only for its grid rows (R5, R8, R38). -/
def LayoutSound (s : State) : Prop :=
  1 ≤ s.layout.record.mc ∧ s.layout.record.mc ≤ 4 ∧ 1 ≤ s.layout.record.mr ∧ s.layout.record.mr ≤ 2
    ∧ 240 ≤ s.layout.record.passRate ∧ s.layout.record.passRate ≤ 3840
    ∧ (∀ i : Fin 8, 192 ≤ s.layout.record.slots[i].trim ∧ s.layout.record.slots[i].trim ≤ 320 ∧
        (s.layout.record.slots[i].fitted = true →
          i.val % 4 < s.layout.record.mc ∧ i.val / 4 < s.layout.record.mr) ∧
        (s.layout.record.slots[i].fitted = false → s.layout.record.slots[i] = SlotLayout.vacant))
    ∧ s.store.length = s.layout.height

/-- A display that runs has a layout; in STANDBY the engine runs no pass, no standby waits and no test is out; tests
are out only in the gap of an ACTIVE pass (R15, R55, R56, R65, R79). -/
def DisplayConsistent (s : State) : Prop :=
  (s.scan.display ≠ .standby → s.layout.status = .set)
    ∧ (s.scan.display = .standby ↔ s.scan.phase = .none)
    ∧ (s.scan.display = .standby → s.scan.standby = .none ∧ s.scan.wakingLeft = 0)
    ∧ (s.sense.gap ≠ [] → s.scan.display = .active ∧ s.scan.phase = .gap)

/-- A message is in hand exactly while a STANDBY is owed its reply, and then it heads the queue and the reply buffer has
room for that reply (R63, R178). -/
def HandConsistent (s : State) : Prop :=
  (s.control.inHand = true ↔ s.scan.standby = .requestedOwed)
    ∧ (s.control.inHand = true → s.control.queue ≠ [] ∧ s.control.replies.length < 4)

/-- A slot is VACANT to the Sense Unit exactly while no module is FITTED there, and its counts keep their ranges (R78,
R86). -/
def ModulesSound (s : State) : Prop :=
  ∀ i : Fin 8, (s.moduleState i = .vacant ↔ s.layout.fitted i = false) ∧ s.sense.modules[i].settle ≤ 8
    ∧ s.sense.modules[i].noAnswer ≤ 3

/-- Every record is for a present die (R104). -/
def RecordsPresent (s : State) : Prop := ∀ e ∈ s.map.records, s.layout.presentDie e.1 = true

/-- The gap list holds at most 8 tests, of present dies, no die twice (R78, R80), and each chain port has been sent the
requests of its slot's dies, in the list's order (R79; that they stand with the list is log entry 29). -/
def GapSound (s : State) : Prop :=
  s.sense.gap.length ≤ 8 ∧ (s.sense.gap.map GapEntry.die).Nodup ∧ (∀ e ∈ s.sense.gap, s.layout.presentDie e.die = true)
    ∧ ∀ i : Fin 8, s.sense.requests[i] =
        (s.sense.gap.map GapEntry.die).filter fun d => decide (slotOfChannel (dieChannel d) = i)

/-- Every record's counts lie as R110 says, and a record that has no window open has both counts 0 (R106, R110). -/
def RecordCountsSound (s : State) : Prop :=
  ∀ e ∈ s.map.records, e.2.hits ≤ e.2.passes ∧ e.2.passes ≤ 15
    ∧ (e.2.state ≠ .suspect → e.2.state ≠ .retest → e.2.hits = 0 ∧ e.2.passes = 0)

end Sys2Proof.Machine
end

