-- ==== Sys2Proof/Certificates/Slice0/Obligations.lean ====
section
/-! DEFINITION. The statements for the provers, each with the rule of spec/ it formalises.  A statement that says
`exec c s = .next t` in its conclusion says that the command completes there. -/

open Sys2Proof Sys2Proof.Machine

/-! ## The queue of commands, frames, power-on -/

/-- A step takes the command at the front of the queue and is `exec` of it on the state with the queue's rest.  That the
part idles on an empty queue is the model's choice (log entry 4). -/
def Obligations.StepTakesFrontCommand : Prop :=
  (∀ (c : Instr) (rest : List Instr) (s : State), s.pending = c :: rest → step s = exec c (s.setPending rest)) ∧
  ∀ s : State, s.pending = [] → step s = .next s

/-- No command changes a block outside those its rules name (`ownedBlocks`).  That none, POWER_ON among them, changes the
queue of commands is the model's choice: the queue is the model's own (log entry 14). -/
def Obligations.OnlyOwnersChangeBlocks : Prop :=
  ∀ (c : Instr) (s t : State), exec c s = .next t → OnlyChanges (ownedBlocks c) s t

/-- POWER_ON leaves every item at its power-on value: R15, R18, R51, R55, R78, R131, R132, R159, R174, R182, R192.  The
long-command slot is IDLE (running false) with last kind NONE, as R78 says; its other fields are the model's choice (log entry
26).  The items `group`, `rowsLit`, `ports`, `requests` and `lineOut` are the model's own or its choice (log entries 9 to 12,
29), that the queue of commands is kept is too (log entry 14), that the number of gaps is kept is log entry 30, and that W and
C take their defaults is log entry 28. -/
def Obligations.PowerOnValues : Prop :=
  ∀ s : State, exec .powerOn s = .next
    { pending := s.pending
      layout :=
        { status := .unset
          record :=
            { mc := 1, mr := 1, slots := Vector.replicate 8 { fitted := false, dieType := .dual, trim := 256 },
              passRate := 1920 } }
      input :=
        { state := .hunt, escape := false, firstFrame := true, lastSeq := 0, header := [], mode := .written,
          position := .awaitingIndex, blockRow := 0, blockSum := 0, rowsDone := 0, group := [] }
      store := []
      scan :=
        { display := .standby, standby := .none, wakingLeft := 0, passNumber := 0, phase := .none, clip := false,
          liveSelect := [], liveBoost := [], rowsLit := 0, ports := Vector.replicate 8 [] }
      sense :=
        { modules := Vector.replicate 8 { state := .vacant, settle := 0, noAnswer := 0, probeCursor := none },
          probeTurn := none, servicePos := none, patrol := 0, gap := [], requests := Vector.replicate 8 []
          gapNumber := s.sense.gapNumber
          long :=
            { running := false, kind := .none, outcome := .none, region := { x0 := 0, y0 := 0, x1 := 0, y1 := 0 },
              colours := 0, dice := 0, cursor := none, tested := 0, skipped := 0, faults := 0, begun := 0, restored := 0,
              reconfirmed := 0, withdrawn := 0, abandoned := 0 } }
      map := { records := [], queue := [] }
      plan := { select := [], boost := [], edited := [], shortfall := [], deferred := [] }
      capture :=
        { state := .disarmed,
          arming := { kinds := 0, place := none, combine := .m1, holdMask := 0, autoRearm := false },
          snapshot := none, held := 0 }
      control :=
        { framing := .idle, escape := false, content := [], queue := [], inHand := false, replies := [], lineOut := [] }
      params :=
        { w := 5, c := 3, f := 75, b := 4, l := 3840, wakeOnLock := false, wakeOnFlag := false, autoStandby := false }
      events :=
        { bits := 0, mask := 31, attention := false, counters := Vector.replicate 23 0, overflow := 0 } }

/-- The part after power-on satisfies every invariant of Safety.lean. -/
def Obligations.ResetMeetsInvariants : Prop :=
  AttentionFollows State.reset ∧ TablesCanonical State.reset ∧ WithinCapacity State.reset ∧
    LiveWithinCapacity State.reset ∧ HandConsistent State.reset ∧
    DisplayConsistent State.reset ∧ LiveFollowsPlan State.reset ∧ OffHoldsNoEntry State.reset ∧
    ParamsInRange State.reset ∧ SharesBounded State.reset ∧ RecordCountsSound State.reset ∧ LayoutSound State.reset ∧
    ModulesSound State.reset ∧ RecordsPresent State.reset ∧ GapSound State.reset

/-! ## Control Port -/

/-- CONTROL_CHARACTER: the table of R175, the judging of R176 and the queue of R177. -/
def Obligations.CharactersAreFramedAndQueued : Prop :=
  ∀ (s : State) (ch : Byte),
    let framed := fun (f : Framing) (e : Bool) (c : List Byte) =>
      s.setControl { s.control with framing := f, escape := e, content := c }
    let bad := fun (f : Framing) => count .ctlBadFrame (framed f false [])
    let taken := fun (b : Byte) =>
      if s.control.content.length < 63 then framed .assembling false (s.control.content ++ [b]) else bad .idle
    (s.control.framing = .idle →
      exec (.controlCharacter ch true) s = .next (if ch = 0xF0 then framed .assembling false [] else s) ∧
      exec (.controlCharacter ch false) s = .next s) ∧
    (s.control.framing = .assembling → exec (.controlCharacter ch false) s = .next (bad .idle)) ∧
    (s.control.framing = .assembling → s.control.escape = false →
      exec (.controlCharacter 0xF0 true) s =
        .next (if s.control.content = [] then framed .assembling false [] else bad .assembling) ∧
      exec (.controlCharacter 0xF2 true) s = .next (framed .assembling true s.control.content) ∧
      (ch ≠ 0xF0 → ch ≠ 0xF1 → ch ≠ 0xF2 → exec (.controlCharacter ch true) s = .next (taken ch)) ∧
      (s.control.content.length < 3 ∨ sumOf s.control.content ≠ 0 →
        exec (.controlCharacter 0xF1 true) s = .next (bad .idle)) ∧
      ∀ (kind tag check : Byte) (payload : List Byte), s.control.content = kind :: tag :: payload ++ [check] →
        sumOf s.control.content = 0 →
        (s.control.queue.length < 4 →
          exec (.controlCharacter 0xF1 true) s = .next (s.setControl { s.control with
            framing := .idle, escape := false, content := [],
            queue := s.control.queue ++ [{ kind := kind, tag := tag, payload := payload }] })) ∧
        (4 ≤ s.control.queue.length →
          exec (.controlCharacter 0xF1 true) s =
            .next (raise .queueOverflow (count .ctlOverrun (framed .idle false []))))) ∧
    (s.control.framing = .assembling → s.control.escape = true →
      exec (.controlCharacter 0xE0 true) s = .next (taken 0xF0) ∧
      exec (.controlCharacter 0xE1 true) s = .next (taken 0xF1) ∧
      exec (.controlCharacter 0xE2 true) s = .next (taken 0xF2) ∧
      exec (.controlCharacter 0xF0 true) s = .next (bad .assembling) ∧
      (ch ≠ 0xE0 → ch ≠ 0xE1 → ch ≠ 0xE2 → ch ≠ 0xF0 → exec (.controlCharacter ch true) s = .next (bad .idle)))

/-- The characters of a framed message, taken one after another from IDLE with room in the queue, put exactly that
message at the queue's tail: framing and its reading agree for every kind, tag, payload and good check (R175 to R177). -/
def Obligations.FramedMessageIsReceived : Prop :=
  ∀ (s : State) (kind tag check : Byte) (payload : List Byte),
    s.control.framing = .idle → s.control.queue.length < 4 → payload.length ≤ 60 →
    sumOf (kind :: tag :: payload ++ [check]) = 0 →
    Runs ((frameCharacters (kind :: tag :: payload ++ [check])).map fun ch => .controlCharacter ch true) s
      (s.setControl { s.control with
        framing := .idle, escape := false, content := [],
        queue := s.control.queue ++ [{ kind := kind, tag := tag, payload := payload }] })

/-- REPLY_SENT: the oldest reply leaves the buffer, framed as R175 and R179 say, with a check that makes its content sum
to 0.  That the characters are kept in `lineOut`, and that nothing changes with an empty buffer, is the model's choice
(log entry 12). -/
def Obligations.ReplySentLeavesBuffer : Prop :=
  (∀ (s : State) (r : Reply) (rest : List Reply), s.control.replies = r :: rest →
    ∃ check : Byte, sumOf (r.kind :: r.tag :: r.payload ++ [check]) = 0 ∧
      exec .replySent s = .next (s.setControl { s.control with
        replies := rest, lineOut := frameCharacters (r.kind :: r.tag :: r.payload ++ [check]) })) ∧
  ∀ s : State, s.control.replies = [] → exec .replySent s = .next s

/-- A message in hand is judged first by its kind and then by its payload's length: an unknown kind is answered UNKNOWN,
a wrong length BAD_ARG, with the status alone, and neither changes anything else (R180, R181). -/
def Obligations.KindAndLengthJudgedFirst : Prop :=
  (∀ (s : State) (m : Message) (rest : List Message), Handing s m rest →
    (∀ e ∈ messageKinds, e.2.1 ≠ m.kind) → Refused .unknownKind s m rest 6) ∧
  ∀ e ∈ messageKinds, ∀ (s : State) (m : Message) (rest : List Message), Handing s m rest →
    m.kind = e.2.1 → m.payload.length ∉ e.2.2 → Refused e.1 s m rest 3

/-- A message whose reply's status is not OK has changed nothing, and its reply carries the status alone (R180). -/
def Obligations.RefusalChangesNothing : Prop :=
  ∀ e ∈ messageKinds, ∀ (s t : State) (m : Message) (rest : List Message) (st : Byte) (data : List Byte),
    Handing s m rest → m.kind = e.2.1 → exec e.1 s = .next t → Answered s t m rest (st :: data) → st ≠ 0 →
      data = [] ∧ OnlyChanges [.control] s t

/-- A hand-on acts only when no message is in hand, the reply buffer has room and the head of the queue is a message of
its kind (R178).  That a hand-on step without such a message changes nothing is the model's choice (log entry 1). -/
def Obligations.HandOnNeedsItsMessage : Prop :=
  (∀ e ∈ messageKinds, ∀ s : State,
    s.control.inHand = true ∨ 4 ≤ s.control.replies.length ∨ (∀ m, s.control.queue.head? = some m → m.kind ≠ e.2.1) →
      exec e.1 s = .next s) ∧
  ∀ s : State,
    s.control.inHand = true ∨ 4 ≤ s.control.replies.length ∨
      (∀ m, s.control.queue.head? = some m → ∃ e ∈ messageKinds, e.2.1 = m.kind) →
      exec .unknownKind s = .next s

/-- SET_PARAMS: every field is brought into range and stored, CLAMPED tells whether any was, and a changed F takes its
round before the reply is formed (R183). -/
def Obligations.SetParamsStoresClamped : Prop :=
  ∀ (s : State) (m : Message) (rest : List Message) (w c f b l0 l1 flags : Byte),
    Handing s m rest → m.kind = 0x05 → m.payload = [w, c, f, b, l0, l1, flags] →
    let w' := max 2 (min 15 w.toNat)
    let c' := max 1 (min w' c.toNat)
    let f' := min 100 f.toNat
    let b' := max 1 (min 8 b.toNat)
    let q : Params :=
      { w := w', c := c', f := f', b := b', l := l0.toNat + 256 * l1.toNat,
        wakeOnLock := flags.getLsbD 0, wakeOnFlag := flags.getLsbD 1, autoStandby := flags.getLsbD 2 }
    let clamped := decide (w' ≠ w.toNat ∨ c' ≠ c.toNat ∨ f' ≠ f.toNat ∨ b' ≠ b.toNat)
    ∃ t, exec .setParams s = .next t ∧ t.params = q ∧
      Answered s t m rest [0, flagByte clamped, byteOf w', byteOf c', byteOf f', byteOf b', l0, l1, flags &&& 7] ∧
      OnlyChanges [.params, .plan, .events, .control] s t ∧
      (f' = s.params.f → t.plan = s.plan ∧ t.events = s.events) ∧
      (f' ≠ s.params.f →
        t.plan = (takeRound [] s.lostChannels (s.setParams q)).plan ∧
        t.events = (takeRound [] s.lostChannels (s.setParams q)).events)

/-- GET_LAYOUT, GET_PARAMS and IDENTIFY: each is answered OK in every state with what is stored, and changes nothing
(R14, R184, R186, with the layouts of R190 and R191). -/
def Obligations.SettingsAreReported : Prop :=
  ∀ (s : State) (m : Message) (rest : List Message), Handing s m rest → m.payload = [] →
    let reports := fun (c : Instr) (data : List Byte) =>
      ∃ t, exec c s = .next t ∧ Answered s t m rest (0 :: data) ∧ OnlyChanges [.control] s t
    (m.kind = 0x04 → s.layout.status = .unset → reports .getLayout [0]) ∧
    (m.kind = 0x04 → s.layout.status = .set → reports .getLayout
      ([1, byteOf s.layout.record.mc, byteOf s.layout.record.mr] ++
        s.layout.record.slots.toList.flatMap (fun l =>
          [if l.fitted then 1 else 0, if l.dieType = .single then 1 else 0, byteOf l.trim, byteOf (l.trim / 256)]) ++
        [byteOf s.layout.record.passRate, byteOf (s.layout.record.passRate / 256)])) ∧
    (m.kind = 0x06 → reports .getParams
      [byteOf s.params.w, byteOf s.params.c, byteOf s.params.f, byteOf s.params.b, byteOf s.params.l,
        byteOf (s.params.l / 256),
        byteOf ((if s.params.wakeOnLock then 1 else 0) + (if s.params.wakeOnFlag then 2 else 0) +
          (if s.params.autoStandby then 4 else 0))]) ∧
    (m.kind = 0x01 → reports .identify [0x60, 0x32, 1, 0x00, 0x04, 0x00, 0x08, 64, 4, 8])

/-- The codes of R189, which every reply is spelled with.  GET_STATUS: a section code above 7 is refused with BAD_ARG;
otherwise the reply carries the section code, the layout state and the fields of the section as they stand, and nothing
changes (R185, with R36, R50, R75, R100, R101, R129, R156, R171 and the layouts of R191). -/
def Obligations.StatusSectionsAreReported : Prop :=
  ([.unset, .set].map LayoutStatus.code = [0, 1] ∧ [.dual, .single].map DieType.code = [0, 1] ∧
    [.standby, .waking, .active].map Display.code = [0, 1, 2] ∧
    [.hunt, .sync, .header, .rows, .discard, .gap].map RxState.code = [0, 1, 2, 3, 4, 5] ∧
    [.vacant, .online, .hot, .dark].map ModuleState.code = [0, 1, 2, 3] ∧ [.a, .b, .off].map Select.code = [0, 1, 2] ∧
    [.suspect, .confirmed, .retest, .pinnedDead, .pinnedGood].map RecordState.code = [0, 1, 2, 3, 4] ∧
    [.none, .opened, .shorted].map DieFault.code = [0, 1, 2] ∧
    [.sensed, .loaded, .hostPin].map RecordSource.code = [0, 1, 2] ∧
    [.newSuspect, .confirmed, .transient, .evicted, .retestBegun, .reconfirmed, .retestAbandoned, .restored, .pinned,
      .unpinned, .loaded].map TransitionKind.code = [0, 1, 2, 3, 4, 5, 6, 7, 8, 9, 10] ∧
    [.none, .survey, .retest].map LongKind.code = [0, 1, 2] ∧
    [.none, .complete, .halted, .haltedByStandby, .aborted].map LongOutcome.code = [0, 1, 2, 3, 4] ∧
    [.disarmed, .armed, .fired].map CaptureState.code = [0, 1, 2] ∧
    [.m1, .m2, .both, .either].map Combine.code = [0, 1, 2, 3]) ∧
  ∀ (s : State) (m : Message) (rest : List Message) (sec : Byte),
    Handing s m rest → m.kind = 0x02 → m.payload = [sec] →
    let reports := fun (fields : List Byte) =>
      ∃ t, exec .getStatus s = .next t ∧
        Answered s t m rest ([0, sec, byteOf s.layout.status.code] ++ fields) ∧ OnlyChanges [.control] s t
    let recordsIn := fun (x : RecordState) => (s.map.records.filter fun e => decide (e.2.state = x)).length
    let off := fun (t : Table Select) => (t.filter fun e => decide (e.2 = .off) && s.layout.presentChannel e.1).length
    let l := s.sense.long
    let scope := [byteOf l.outcome.code, byteOf l.region.x0, byteOf l.region.y0, byteOf l.region.x1, byteOf l.region.y1,
      byteOf l.colours.toNat, byteOf l.dice.toNat]
    (7 < sec.toNat → Refused .getStatus s m rest 3) ∧
    (sec = 0 → reports ([byteOf s.input.state.code] ++ bytesOf 2 s.input.rowsDone ++ bytesOf 2 s.input.lastSeq.toNat ++
      bytesOf 2 (s.events.counter .framesClosed).toNat)) ∧
    (sec = 1 → reports [byteOf s.layout.height, byteOf (s.store.filter Row.blanked).length,
      byteOf (s.store.filter fun r => decide (r.pend ≠ .none)).length]) ∧
    (sec = 2 → reports ([byteOf s.scan.display.code, flagByte (decide (s.scan.standby ≠ .none)),
        byteOf s.scan.wakingLeft] ++ bytesOf 4 s.scan.passNumber.toNat ++ bytesOf 2 (off s.scan.liveSelect) ++
      bytesOf 2 s.scan.liveBoost.length)) ∧
    (sec = 3 → reports (slotList.flatMap (fun i =>
        [byteOf s.sense.modules[i].state.code, byteOf s.sense.modules[i].settle]) ++ bytesOf 3 s.sense.patrol ++
      [byteOf (s.sense.gap.filter GapEntry.outstanding).length])) ∧
    (sec = 4 → l.kind = .none → reports [flagByte l.running, 0]) ∧
    (sec = 4 → l.kind = .survey → reports ([flagByte l.running, 1] ++ scope ++ bytesOf 3 (l.cursor.getD 0xFFFFFF) ++
      bytesOf 3 l.tested ++ bytesOf 3 l.skipped ++ bytesOf 3 l.faults)) ∧
    (sec = 4 → l.kind = .retest → reports ([flagByte l.running, 2] ++ scope ++ bytesOf 2 l.begun ++ bytesOf 2 l.restored ++
      bytesOf 2 l.reconfirmed ++ bytesOf 2 l.withdrawn ++ bytesOf 2 l.abandoned ++ bytesOf 2 (recordsIn .retest))) ∧
    (sec = 5 → reports (bytesOf 2 s.map.records.length ++ bytesOf 2 (recordsIn .suspect) ++
      bytesOf 2 (recordsIn .confirmed) ++ bytesOf 2 (recordsIn .retest) ++ bytesOf 2 (recordsIn .pinnedDead) ++
      bytesOf 2 (recordsIn .pinnedGood) ++ [byteOf s.map.queue.length])) ∧
    (sec = 6 → reports (bytesOf 2 (off s.plan.select) ++ bytesOf 2 s.plan.boost.length ++
      bytesOf 2 s.plan.shortfall.length ++ bytesOf 2 s.plan.deferred.length ++ bytesOf 2 s.plan.edited.length)) ∧
    (sec = 7 → reports [byteOf s.capture.state.code, byteOf s.capture.arming.combine.code,
      byteOf ((if s.capture.arming.kinds ≠ 0 then 1 else 0) + (if s.capture.arming.place.isSome then 2 else 0) +
        (if s.capture.arming.autoRearm then 4 else 0) + (if s.capture.snapshot.isSome then 8 else 0)),
      s.capture.arming.holdMask, s.capture.held])

/-! ## Layout -/

/-- SET_LAYOUT, accepted: the record is stored with the adjustments of R11, the state R12 lists is cleared, the state R13
lists is left as it was, and the reply carries CLAMPED and the record as stored.  R12 gives settle and run for FITTED slots
alone: that they are 0 on a slot made VACANT is the model's reading (log entry 19). -/
def Obligations.SetLayoutAccepted : Prop :=
  ∀ (s : State) (m : Message) (rest : List Message) (p : List Byte),
    Handing s m rest → m.kind = 0x03 → m.payload = p → p.length = 36 → s.scan.display = .standby →
    1 ≤ byteAt p 0 → byteAt p 0 ≤ 4 → 1 ≤ byteAt p 1 → byteAt p 1 ≤ 2 →
    (∀ i : Fin 8, byteAt p (2 + 4 * i) = 0 ∨
      (byteAt p (2 + 4 * i) = 1 ∧ byteAt p (3 + 4 * i) ≤ 1 ∧ i % 4 < byteAt p 0 ∧ i / 4 < byteAt p 1)) →
    let fitted := fun i : Fin 8 => byteAt p (2 + 4 * i) = 1
    let trim := fun i : Fin 8 => byteAt p (4 + 4 * i) + 256 * byteAt p (5 + 4 * i)
    let trim' := fun i : Fin 8 => max 192 (min 320 (trim i))
    let rate := byteAt p 34 + 256 * byteAt p 35
    let rate' := max 240 (min 3840 rate)
    ∃ t, exec .setLayout s = .next t ∧ t.layout.status = .set ∧ t.layout.record.mc = byteAt p 0 ∧
      t.layout.record.mr = byteAt p 1 ∧ t.layout.record.passRate = rate' ∧
      (∀ i : Fin 8, t.layout.record.slots[i] =
        if fitted i then
          { fitted := true, dieType := if byteAt p (3 + 4 * i) = 1 then .single else .dual, trim := trim' i }
        else { fitted := false, dieType := .dual, trim := 256 }) ∧
      t.map = { records := [], queue := [] } ∧
      t.plan = { select := [], boost := [], edited := [], shortfall := [], deferred := [] } ∧
      t.scan = { s.scan with liveSelect := [], liveBoost := [] } ∧
      t.store = List.replicate (48 * byteAt p 1)
        { display := 0, incoming := .none, pend := .none, held := 0, blanked := false, slot0 := [], slot1 := [] } ∧
      t.sense = { s.sense with
        modules := t.sense.modules, patrol := 0, servicePos := none, probeTurn := none } ∧
      (∀ i : Fin 8, t.sense.modules[i] =
        { state := if fitted i then .online else .vacant, settle := 0, noAnswer := 0, probeCursor := none }) ∧
      OnlyChanges [.layout, .store, .scan, .sense, .map, .plan, .control] s t ∧
      Answered s t m rest ([0, flagByte (decide (rate' ≠ rate ∨ ∃ i : Fin 8, fitted i ∧ trim' i ≠ trim i)),
          byteOf (byteAt p 0), byteOf (byteAt p 1)] ++
        t.layout.record.slots.toList.flatMap (fun l =>
          [if l.fitted then 1 else 0, if l.dieType = .single then 1 else 0, byteOf l.trim, byteOf (l.trim / 256)]) ++
        [byteOf rate', byteOf (rate' / 256)])

/-- SET_LAYOUT, SURVEY, RETEST, PIN and RESTORE: the checks before they act come in the order of R9, R10, R91, R121 and
R124, and the first that fails decides the status. -/
def Obligations.RefusalsComeInOrder : Prop :=
  ∀ (s : State) (m : Message) (rest : List Message) (p : List Byte), Handing s m rest → m.payload = p →
    (m.kind = 0x03 → p.length = 36 →
      (s.scan.display ≠ .standby → Refused .setLayout s m rest 2) ∧
      (s.scan.display = .standby →
        ¬ (1 ≤ byteAt p 0 ∧ byteAt p 0 ≤ 4 ∧ 1 ≤ byteAt p 1 ∧ byteAt p 1 ≤ 2 ∧
          ∀ i : Fin 8, byteAt p (2 + 4 * i) = 0 ∨
            (byteAt p (2 + 4 * i) = 1 ∧ byteAt p (3 + 4 * i) ≤ 1 ∧ i % 4 < byteAt p 0 ∧ i / 4 < byteAt p 1)) →
        Refused .setLayout s m rest 3)) ∧
    (∀ e ∈ ([(.survey, 0x10), (.retest, 0x11)] : List (Instr × Byte)),
      ∀ x0 y0 x1 y1 colours dice : Byte, m.kind = e.2 → p = [x0, y0, x1, y1, colours, dice] →
      (s.layout.status = .unset → Refused e.1 s m rest 2) ∧
      (s.layout.status = .set → s.scan.display = .standby → Refused e.1 s m rest 2) ∧
      (s.layout.status = .set → s.scan.display ≠ .standby → s.sense.long.running = true → Refused e.1 s m rest 1) ∧
      (s.layout.status = .set → s.scan.display ≠ .standby → s.sense.long.running = false →
        1 ≤ s.layout.record.mc → 1 ≤ s.layout.record.mr →
        ¬ (x0 ≤ x1 ∧ y0 ≤ y1 ∧ x0.toNat < 48 * s.layout.record.mc ∧ y0.toNat < 48 * s.layout.record.mr ∧
          colours.truncate 3 ≠ 0#3 ∧ dice.truncate 2 ≠ 0#2) →
        Refused e.1 s m rest 3)) ∧
    (∀ e ∈ ([(.pin, 0x18, 0, 1), (.restore, 0x1A, 1, 2)] : List (Instr × Byte × Byte × Byte)),
      ∀ d0 d1 d2 k : Byte, m.kind = e.2.1 → p = [d0, d1, d2, k] →
      let die := d0.toNat + 256 * d1.toNat + 65536 * d2.toNat
      (s.layout.status = .unset → Refused e.1 s m rest 2) ∧
      (s.layout.status = .set → s.layout.presentDie die = false → Refused e.1 s m rest 3) ∧
      (s.layout.status = .set → s.layout.presentDie die = true → k ≠ e.2.2.1 → k ≠ e.2.2.2 →
        Refused e.1 s m rest 3))

/-! ## Long commands -/

/-- SURVEY, accepted: the slot becomes RUNNING with the clipped scope, counts of 0 and the cursor at the lowest die in
scope, and nothing else changes.  A die is in scope when its site lies within the clipped corners, its colour is in the colour
set and its die, A or B, in the die set (R91, R92, with the indices of R3 and the sets of R189). -/
def Obligations.SurveyStarts : Prop :=
  ∀ (s : State) (m : Message) (rest : List Message) (x0 y0 x1 y1 colours dice : Byte),
    Handing s m rest → m.kind = 0x10 → m.payload = [x0, y0, x1, y1, colours, dice] → s.layout.status = .set →
    s.scan.display ≠ .standby → s.sense.long.running = false → x0 ≤ x1 → y0 ≤ y1 →
    x0.toNat < 48 * s.layout.record.mc → y0.toNat < 48 * s.layout.record.mr →
    colours.truncate 3 ≠ 0#3 → dice.truncate 2 ≠ 0#2 →
    let cx := min x1.toNat (48 * s.layout.record.mc - 1)
    let cy := min y1.toNat (48 * s.layout.record.mr - 1)
    let scope : Region := { x0 := x0.toNat, y0 := y0.toNat, x1 := cx, y1 := cy }
    let inside := fun (d : Nat) =>
      x0.toNat ≤ d / 2 / 3 % 192 ∧ d / 2 / 3 % 192 ≤ cx ∧ y0.toNat ≤ d / 2 / 3 / 192 ∧ d / 2 / 3 / 192 ≤ cy ∧
        colours.getLsbD (d / 2 % 3) = true ∧ dice.getLsbD (d % 2) = true
    ∃ t, exec .survey s = .next t ∧
      t.sense = { s.sense with long :=
        { running := true, kind := .survey, outcome := .none, region := scope, colours := colours.truncate 3,
          dice := dice.truncate 2, cursor := t.sense.long.cursor, tested := 0, skipped := 0, faults := 0, begun := 0,
          restored := 0, reconfirmed := 0, withdrawn := 0, abandoned := 0 } } ∧
      (∀ d, t.sense.long.cursor = some d → inside d ∧ d < 110592 ∧ ∀ e < d, ¬ inside e) ∧
      (t.sense.long.cursor = none → ∀ d < 110592, ¬ inside d) ∧
      OnlyChanges [.sense, .control] s t ∧
      Answered s t m rest [0, x0, y0, byteOf cx, byteOf cy, flagByte (decide (cx ≠ x1.toNat ∨ cy ≠ y1.toNat))]

/-- RETEST, accepted: every CONFIRMED record of source SENSED or LOADED in scope is turned to RETEST with a fresh window,
every other record is left as it was, RETEST_BEGUN is logged for each in ascending die index, the plan does not change, and
with none to turn the command ends COMPLETE at once with LONG_DONE raised (R96, R108, R115, R127).  The scope is the clipped
corners, the colour set and the die set (R91). -/
def Obligations.RetestTurnsRecords : Prop :=
  ∀ (s : State) (m : Message) (rest : List Message) (x0 y0 x1 y1 colours dice : Byte),
    Handing s m rest → m.kind = 0x11 → m.payload = [x0, y0, x1, y1, colours, dice] → s.layout.status = .set →
    s.scan.display ≠ .standby → s.sense.long.running = false → x0 ≤ x1 → y0 ≤ y1 →
    x0.toNat < 48 * s.layout.record.mc → y0.toNat < 48 * s.layout.record.mr →
    colours.truncate 3 ≠ 0#3 → dice.truncate 2 ≠ 0#2 → TablesCanonical s →
    let cx := min x1.toNat (48 * s.layout.record.mc - 1)
    let cy := min y1.toNat (48 * s.layout.record.mr - 1)
    let scope : Region := { x0 := x0.toNat, y0 := y0.toNat, x1 := cx, y1 := cy }
    let inside := fun (d : Nat) =>
      x0.toNat ≤ d / 2 / 3 % 192 ∧ d / 2 / 3 % 192 ≤ cx ∧ y0.toNat ≤ d / 2 / 3 / 192 ∧ d / 2 / 3 / 192 ≤ cy ∧
        colours.getLsbD (d / 2 % 3) = true ∧ dice.getLsbD (d % 2) = true
    let taken := fun (d : Nat) (r : DefectRecord) =>
      decide (inside d ∧ r.state = .confirmed ∧ (r.source = .sensed ∨ r.source = .loaded))
    let n := (s.map.records.filter fun e => taken e.1 e.2).length
    ∃ t, exec .retest s = .next t ∧
      (∀ d, Table.fetch t.map.records d = (Table.fetch s.map.records d).map fun r =>
        if taken d r then { r with state := .retest, hits := 0, passes := 0, statePass := s.scan.passNumber } else r) ∧
      (s.map.queue.length ≤ 64 → t.map.queue = appended s.map.queue
        ((s.map.records.filter fun e => taken e.1 e.2).map fun e =>
          { kind := .retestBegun, die := e.1, fault := e.2.fault, pass := s.scan.passNumber })) ∧
      t.sense.long =
        { running := decide (n ≠ 0), kind := .retest, outcome := if n = 0 then .complete else .none, region := scope,
          colours := colours.truncate 3, dice := dice.truncate 2, cursor := none, tested := 0, skipped := 0,
          faults := 0, begun := n, restored := 0, reconfirmed := 0, withdrawn := 0, abandoned := 0 } ∧
      (n = 0 → t.events.pends .longDone = true) ∧ t.plan = s.plan ∧
      OnlyChanges (.control :: dieBlocks) s t ∧
      Answered s t m rest ([0, x0, y0, byteOf cx, byteOf cy, flagByte (decide (cx ≠ x1.toNat ∨ cy ≠ y1.toNat))] ++
        bytesOf 2 n ++ [if n = 0 then 1 else 0])

/-- HALT with nothing RUNNING, and HALT of a SURVEY (R98): the survey ends HALTED with its counts as they stand, its
outstanding tests stay in the gap list, and LONG_DONE is raised. -/
def Obligations.HaltEndsSurvey : Prop :=
  ∀ (s : State) (m : Message) (rest : List Message), Handing s m rest → m.kind = 0x12 → m.payload = [] →
    let l := s.sense.long
    (l.running = false → ∃ t, exec .halt s = .next t ∧
      Answered s t m rest [0, 0, byteOf l.kind.code, byteOf l.outcome.code] ∧ OnlyChanges [.control] s t) ∧
    (l.running = true → l.kind = .survey → ∃ t, exec .halt s = .next t ∧
      t.sense.long = { l with running := false, outcome := .halted } ∧
      t.sense.gap.map (fun e => (e.die, e.purpose, e.outstanding)) =
        s.sense.gap.map (fun e => (e.die, e.purpose, e.outstanding)) ∧
      t.events = s.events.raised .longDone ∧ OnlyChanges [.sense, .events, .control] s t ∧
      Answered s t m rest ([0, 1, 1, 2] ++ bytesOf 3 l.tested ++ bytesOf 3 l.skipped ++ bytesOf 3 l.faults))

/-- HALT of a RETEST: every record in state RETEST returns to CONFIRMED with RETEST_ABANDONED, in ascending die index, and
counts in abandoned, the plan does not change, and the RETEST ends HALTED with LONG_DONE raised (R97, R98, R108, R118, R127). -/
def Obligations.HaltReturnsRetestRecords : Prop :=
  ∀ (s : State) (m : Message) (rest : List Message), Handing s m rest → m.kind = 0x12 → m.payload = [] →
    s.sense.long.running = true → s.sense.long.kind = .retest → TablesCanonical s →
    let n := (s.map.records.filter fun e => decide (e.2.state = .retest)).length
    let l := { s.sense.long with
      running := false, outcome := .halted, abandoned := s.sense.long.abandoned + n }
    ∃ t, exec .halt s = .next t ∧
      (∀ d, Table.fetch t.map.records d = (Table.fetch s.map.records d).map fun r =>
        if r.state = .retest then { r with state := .confirmed, hits := 0, passes := 0, statePass := s.scan.passNumber }
        else r) ∧
      (s.map.queue.length ≤ 64 → t.map.queue = appended s.map.queue
        ((s.map.records.filter fun e => decide (e.2.state = .retest)).map fun e =>
          { kind := .retestAbandoned, die := e.1, fault := e.2.fault, pass := s.scan.passNumber })) ∧
      t.sense.long = l ∧ t.events.pends .longDone = true ∧ t.plan = s.plan ∧
      OnlyChanges (.control :: dieBlocks) s t ∧
      Answered s t m rest ([0, 1, 2, 2] ++ bytesOf 2 l.begun ++ bytesOf 2 l.restored ++ bytesOf 2 l.reconfirmed ++
        bytesOf 2 l.withdrawn ++ bytesOf 2 l.abandoned)

/-! ## Defect Map -/

/-- PIN: the table of R122 for a die with a record, and for one without while the map has room.  The transition PINNED joins
the queue, and the plan changes only when the pin changes the die's standing: then, unless a capture is ARMED, the planner
takes the round of the die's channel, which with nothing held leaves it at its derived select (R108, R139, R140).  A record
that leaves RETEST counts withdrawn, and when no other record is in RETEST the RETEST ends COMPLETE with LONG_DONE raised
(R97). -/
def Obligations.PinSetsRecord : Prop :=
  ∀ (s : State) (m : Message) (rest : List Message) (d0 d1 d2 k : Byte),
    Handing s m rest → m.kind = 0x18 → m.payload = [d0, d1, d2, k] → k = 0 ∨ k = 1 →
    let die := d0.toNat + 256 * d1.toNat + 65536 * d2.toNat
    s.layout.status = .set → s.layout.presentDie die = true → s.map.queue.length ≤ 64 →
    let x : RecordState := if k = 0 then .pinnedDead else .pinnedGood
    let now := s.scan.passNumber
    let l := s.sense.long
    let others := s.map.records.any fun e => decide (e.1 ≠ die ∧ e.2.state = .retest)
    let sets := fun (r : DefectRecord) (left : Bool) => ∃ t, exec .pin s = .next t ∧
      (∀ d, Table.fetch t.map.records d = if d = die then some r else Table.fetch s.map.records d) ∧
      t.map.queue = appended s.map.queue [{ kind := .pinned, die := die, fault := r.fault, pass := now }] ∧
      (s.dieDead die = decide (k = 0) → t.plan = s.plan) ∧
      (s.dieDead die ≠ decide (k = 0) → s.capture.state ≠ .armed →
        t.plan = (takeRound [dieChannel die] [] (s.setMap t.map)).plan ∧
        (s.capture.held = 0 → t.plan.selectOf (dieChannel die) = t.derivedSelect (dieChannel die))) ∧
      OnlyChanges (.control :: dieBlocks) s t ∧
      Answered s t m rest (0 :: recordBytes die r) ∧ (left = false → t.sense = s.sense) ∧
      (left = true → Table.canonical s.map.records = true →
        (others = true → t.sense.long = { l with withdrawn := l.withdrawn + 1 }) ∧
        (others = false → t.events.pends .longDone = true ∧
          t.sense.long = { l with withdrawn := l.withdrawn + 1, running := false, outcome := .complete }))
    (Table.fetch s.map.records die = none → s.map.records.length < 1024 →
      sets { state := x, fault := .none, hits := 0, passes := 0, firstPass := now, statePass := now,
             source := .hostPin } false) ∧
    (∀ r, Table.fetch s.map.records die = some r → r.state ≠ x →
      sets { r with state := x, hits := 0, passes := 0, statePass := now, source := .hostPin }
        (decide (r.state = .retest))) ∧
    (∀ r, Table.fetch s.map.records die = some r → r.state = x →
      ∃ t, exec .pin s = .next t ∧ Answered s t m rest (0 :: recordBytes die r) ∧ OnlyChanges [.control] s t)

/-- A die A that turns dead by a PIN DEAD on a channel whose pending select is A: on a DUAL slot with die B alive the
planner stages select B; otherwise the channel becomes LOST, LOST is raised and its entry is deleted.  The channel is
marked edited, and the live tables do not change (R135, R139, R140, R134).  No slot is held here. -/
def Obligations.DeadDieIsReplanned : Prop :=
  ∀ (s : State) (m : Message) (rest : List Message) (d0 d1 d2 : Byte) (n : Nat),
    Handing s m rest → m.kind = 0x18 → m.payload = [d0, d1, d2, 0] →
    d0.toNat + 256 * d1.toNat + 65536 * d2.toNat = 2 * n → s.layout.status = .set →
    s.layout.presentDie (2 * n) = true → s.capture.held = 0 → s.capture.state ≠ .armed →
    s.dieDead (2 * n) = false → s.plan.selectOf n = .a →
    (Table.fetch s.map.records (2 * n)).isSome = true ∨ s.map.records.length < 1024 →
    ∃ t, exec .pin s = .next t ∧ IndexSet.has t.plan.edited n = true ∧ t.scan = s.scan ∧
      (∀ j, j ≠ n → t.plan.selectOf j = s.plan.selectOf j) ∧
      (s.layout.dieTypeAt n = .dual → s.dieDead (2 * n + 1) = false → t.plan.selectOf n = .b) ∧
      (s.layout.dieTypeAt n = .single ∨ s.dieDead (2 * n + 1) = true →
        t.plan.selectOf n = .off ∧ t.plan.entryOf n = none ∧ t.events.pends .lost = true)

/-- A record to be created in a full map, by a PIN, a RESTORE, an observation that R85 hands on or the SHORT of an immediate
cut.  With a SUSPECT record in the map the one with the fewest hits, then the greatest age, then the lowest die index is
evicted, EVICTED is logged before the new record's transitions, and EVICTIONS is counted.  With none the command is refused
with NO_ROOM and changes nothing, and the observation is dropped, with MAP_FULL_DROPS counted and MAP_FULL raised (R107, R119,
R120; for a cut with none to evict `LiveShortCutsChannel`).  A die turned dead is told to the planner: with nothing held and
no capture ARMED its channel is left at its derived select (R108, R139, R140).  That an answer names its gap by number is log
entry 30. -/
def Obligations.FullMapEvicts : Prop :=
  ∀ s : State, TablesCanonical s → s.map.queue.length ≤ 64 → s.map.records.length = 1024 →
    let now := s.scan.passNumber
    let age := fun (r : DefectRecord) => (now - r.firstPass).toNat
    let stuck := ∀ e ∈ s.map.records, e.2.state ≠ .suspect
    let victim := fun (e : Nat × DefectRecord) => e ∈ s.map.records ∧ e.2.state = .suspect ∧
      ∀ f ∈ s.map.records, f.2.state = .suspect → f ≠ e →
        e.2.hits < f.2.hits ∨ (e.2.hits = f.2.hits ∧ age f.2 < age e.2) ∨
          (e.2.hits = f.2.hits ∧ age f.2 = age e.2 ∧ e.1 < f.1)
    let logged := fun (k : TransitionKind) (d : Nat) (f : DieFault) => ({ kind := k, die := d, fault := f, pass := now } : Transition)
    let evicts := fun (c : Instr) (die : Nat) (r : DefectRecord) (ks : List TransitionKind) =>
      ∃ (t : State) (e : Nat × DefectRecord), exec c s = .next t ∧ victim e ∧ Table.fetch t.map.records e.1 = none ∧
        Table.fetch t.map.records die = some r ∧
        (∀ d, d ≠ die → d ≠ e.1 → Table.fetch t.map.records d = Table.fetch s.map.records d) ∧
        t.map.records.length = 1024 ∧
        t.map.queue = appended s.map.queue (logged .evicted e.1 e.2.fault :: ks.map fun k => logged k die r.fault) ∧
        t.events.counter .evictions = s.events.counter .evictions + 1 ∧
        (r.state ≠ .suspect → r.state ≠ .pinnedGood → s.capture.held = 0 → s.capture.state ≠ .armed →
          t.plan.selectOf (dieChannel die) = t.derivedSelect (dieChannel die))
    let fresh := fun (x : RecordState) (f : DieFault) (n : Nat) (src : RecordSource) =>
      ({ state := x, fault := f, hits := n, passes := n, firstPass := now, statePass := now, source := src } : DefectRecord)
    (∀ (m : Message) (rest : List Message) (d0 d1 d2 k : Byte), Handing s m rest → m.payload = [d0, d1, d2, k] →
      let die := d0.toNat + 256 * d1.toNat + 65536 * d2.toNat
      s.layout.status = .set → s.layout.presentDie die = true → Table.fetch s.map.records die = none →
      (m.kind = 0x18 → k = 0 ∨ k = 1 →
        (stuck → Refused .pin s m rest 4) ∧
        (¬ stuck → evicts .pin die (fresh (if k = 0 then .pinnedDead else .pinnedGood) .none 0 .hostPin) [.pinned])) ∧
      (m.kind = 0x1A → k = 1 ∨ k = 2 →
        (stuck → Refused .restore s m rest 4) ∧
        (¬ stuck → evicts .restore die (fresh .confirmed (if k = 1 then .opened else .shorted) 0 .loaded) [.loaded]))) ∧
    (∀ die : Nat, s.scan.display = .active → s.scan.phase = .pass → s.layout.presentDie die = true →
      s.scan.selectOf (dieChannel die) = (if die % 2 = 1 then .b else .a) →
      Table.fetch s.map.records die = none → ¬ stuck →
      evicts (.liveShortReport die) die (fresh .confirmed .shorted 0 .sensed) [.newSuspect, .confirmed]) ∧
    ∀ (g : GapEntry) (o : TestAnswer) (hot : Bool), g ∈ s.sense.gap → g.outstanding = true → HandsOn s g.die o hot →
      Table.fetch s.map.records g.die = none → o ≠ .ok → ParamsInRange s →
      let c : Instr := .gapTestAnswer ⟨g.die, s.sense.gapNumber⟩ o hot
      (stuck → ∃ t, exec c s = .next t ∧ t.map = s.map ∧ t.events.pends .mapFull = true ∧
        t.events.counter .mapFullDrops = s.events.counter .mapFullDrops + 1) ∧
      (¬ stuck →
        (o = .opened → 1 < s.params.c → evicts c g.die (fresh .suspect .opened 1 .sensed) [.newSuspect]) ∧
        (o = .opened → s.params.c = 1 → evicts c g.die (fresh .confirmed .opened 0 .sensed) [.newSuspect, .confirmed]) ∧
        (o = .shorted → evicts c g.die (fresh .confirmed .shorted 0 .sensed) [.newSuspect, .confirmed]))

/-- UNPIN, in the order of R123: NOT_FOUND while UNSET, BAD_ARG for a die that is not present, NOT_FOUND without a record,
WRONG_STATE for a record that is not pinned; a pinned record is removed with UNPINNED.  A PINNED_GOOD one leaves the plan as
it was; for a PINNED_DEAD one, unless a capture is ARMED, the planner takes the round of its channel, which with nothing held
leaves it at its derived select (R108, R139, R140). -/
def Obligations.UnpinRemovesRecord : Prop :=
  ∀ (s : State) (m : Message) (rest : List Message) (d0 d1 d2 : Byte),
    Handing s m rest → m.kind = 0x19 → m.payload = [d0, d1, d2] → s.map.queue.length ≤ 64 →
    let die := d0.toNat + 256 * d1.toNat + 65536 * d2.toNat
    (s.layout.status = .unset → Refused .unpin s m rest 5) ∧
    (s.layout.status = .set → s.layout.presentDie die = false → Refused .unpin s m rest 3) ∧
    (s.layout.status = .set → s.layout.presentDie die = true →
      (Table.fetch s.map.records die = none → Refused .unpin s m rest 5) ∧
      ∀ r, Table.fetch s.map.records die = some r →
        (r.state ≠ .pinnedDead → r.state ≠ .pinnedGood → Refused .unpin s m rest 2) ∧
        (r.state = .pinnedDead ∨ r.state = .pinnedGood →
          ∃ t, exec .unpin s = .next t ∧
            (∀ d, Table.fetch t.map.records d = if d = die then none else Table.fetch s.map.records d) ∧
            t.map.queue = appended s.map.queue
              [{ kind := .unpinned, die := die, fault := r.fault, pass := s.scan.passNumber }] ∧
            (r.state = .pinnedGood → t.plan = s.plan) ∧
            (r.state = .pinnedDead → s.capture.state ≠ .armed →
              t.plan = (takeRound [dieChannel die] [] (s.setMap t.map)).plan ∧
              (s.capture.held = 0 → t.plan.selectOf (dieChannel die) = t.derivedSelect (dieChannel die))) ∧
            OnlyChanges (.control :: dieBlocks) s t ∧ Answered s t m rest [0]))

/-- RESTORE: the table of R124 for a die with a record, and for one without while the map has room.  A RETEST record is dead
before and after, so the plan does not change for it; it counts withdrawn, and when no other record is in RETEST the RETEST
ends COMPLETE with LONG_DONE raised (R97).  A die that was alive turns dead: unless a capture is ARMED, the planner takes the
round of its channel, which with nothing held leaves it at its derived select (R108, R139, R140). -/
def Obligations.RestoreLoadsRecord : Prop :=
  ∀ (s : State) (m : Message) (rest : List Message) (d0 d1 d2 k : Byte),
    Handing s m rest → m.kind = 0x1A → m.payload = [d0, d1, d2, k] → k = 1 ∨ k = 2 →
    let die := d0.toNat + 256 * d1.toNat + 65536 * d2.toNat
    s.layout.status = .set → s.layout.presentDie die = true → s.map.queue.length ≤ 64 →
    let f : DieFault := if k = 1 then .opened else .shorted
    let now := s.scan.passNumber
    let l := s.sense.long
    let others := s.map.records.any fun e => decide (e.1 ≠ die ∧ e.2.state = .retest)
    let sets := fun (r : DefectRecord) (left : Bool) => ∃ t, exec .restore s = .next t ∧
      (∀ d, Table.fetch t.map.records d = if d = die then some r else Table.fetch s.map.records d) ∧
      t.map.queue = appended s.map.queue [{ kind := .loaded, die := die, fault := f, pass := now }] ∧
      (s.dieDead die = true → t.plan = s.plan) ∧
      (s.dieDead die = false → s.capture.state ≠ .armed →
        t.plan = (takeRound [dieChannel die] [] (s.setMap t.map)).plan ∧
        (s.capture.held = 0 → t.plan.selectOf (dieChannel die) = t.derivedSelect (dieChannel die))) ∧
      OnlyChanges (.control :: dieBlocks) s t ∧
      Answered s t m rest (0 :: recordBytes die r) ∧ (left = false → t.sense = s.sense) ∧
      (left = true → Table.canonical s.map.records = true →
        (others = true → t.sense.long = { l with withdrawn := l.withdrawn + 1 }) ∧
        (others = false → t.events.pends .longDone = true ∧
          t.sense.long = { l with withdrawn := l.withdrawn + 1, running := false, outcome := .complete }))
    (Table.fetch s.map.records die = none → s.map.records.length < 1024 →
      sets { state := .confirmed, fault := f, hits := 0, passes := 0, firstPass := now, statePass := now,
             source := .loaded } false) ∧
    (∀ r, Table.fetch s.map.records die = some r →
      (r.state = .suspect ∨ r.state = .retest →
        sets { r with state := .confirmed, fault := f, hits := 0, passes := 0, statePass := now, source := .loaded }
          (decide (r.state = .retest))) ∧
      (r.state = .confirmed →
        ∃ t, exec .restore s = .next t ∧ Answered s t m rest (0 :: recordBytes die r) ∧ OnlyChanges [.control] s t) ∧
      (r.state = .pinnedDead ∨ r.state = .pinnedGood → Refused .restore s m rest 2))

/-- READ_MAP: up to 4 records from the start index on in ascending order, each in the 13 bytes of R190, with the records
count and the next index, and nothing changes (R125). -/
def Obligations.ReadMapReports : Prop :=
  ∀ (s : State) (m : Message) (rest : List Message) (d0 d1 d2 : Byte),
    Handing s m rest → m.kind = 0x20 → m.payload = [d0, d1, d2] →
    let start := d0.toNat + 256 * d1.toNat + 65536 * d2.toNat
    let found := s.map.records.filter fun e => decide (start ≤ e.1)
    let next := match (found.take 4).getLast?, found.drop 4 with
      | some e, _ :: _ => e.1 + 1
      | _, _ => 0xFFFFFF
    let bytes := fun (e : Nat × DefectRecord) =>
      bytesOf 3 e.1 ++ [byteOf (e.2.state.code + 8 * e.2.fault.code + 32 * e.2.source.code),
        byteOf (e.2.hits + 16 * e.2.passes)] ++ bytesOf 4 e.2.firstPass.toNat ++ bytesOf 4 e.2.statePass.toNat
    (110591 < start → Refused .readMap s m rest 3) ∧
    (start ≤ 110591 → ∃ t, exec .readMap s = .next t ∧
      Answered s t m rest ([0] ++ bytesOf 2 s.map.records.length ++ bytesOf 3 next ++ (found.take 4).flatMap bytes) ∧
      OnlyChanges [.control] s t)

/-- READ_TRANSITIONS: up to 6 of the oldest entries are removed and returned, each in the 8 bytes of R190, with the number
remaining; no event bit is cleared (R128). -/
def Obligations.ReadTransitionsTakesOldest : Prop :=
  ∀ (s : State) (m : Message) (rest : List Message), Handing s m rest → m.kind = 0x21 → m.payload = [] →
    ∃ t, exec .readTransitions s = .next t ∧ t.map = { s.map with queue := s.map.queue.drop 6 } ∧
      OnlyChanges [.map, .control] s t ∧
      Answered s t m rest ([0, byteOf (s.map.queue.length - 6)] ++ (s.map.queue.take 6).flatMap (fun e =>
        [byteOf (e.kind.code + 16 * e.fault.code)] ++ bytesOf 3 e.die ++ bytesOf 4 e.pass.toNat))

/-! ## Repair Planner -/

/-- READ_PLAN: a start index above 55,295 is refused with BAD_ARG; otherwise the first up to 2 channels of interest from the
start index on are reported in ascending order, with the next index, and nothing changes (R155).  Each takes the 14 bytes of
R191: channel index, both selects, the three marks, the directions of the pending and of the live entry, and their shares, each
as share − 1 and 0 for a direction that is not there. -/
def Obligations.ReadPlanReports : Prop :=
  ∀ (s : State) (m : Message) (rest : List Message) (c0 c1 c2 : Byte),
    Handing s m rest → m.kind = 0x22 → m.payload = [c0, c1, c2] →
    let start := c0.toNat + 256 * c1.toNat + 65536 * c2.toNat
    let interest := fun (n : Nat) => s.layout.presentChannel n = true ∧
      (s.plan.selectOf n ≠ .a ∨ s.scan.selectOf n ≠ .a ∨ s.plan.entryOf n ≠ none ∨ s.scan.entryOf n ≠ none ∨
        IndexSet.has s.plan.edited n = true ∨ IndexSet.has s.plan.shortfall n = true ∨
        IndexSet.has s.plan.deferred n = true)
    let code := fun (x : Select) => match x with
      | .a => 0
      | .b => 1
      | .off => 2
    let bit := fun (there : Bool) (v : Nat) => if there then v else 0
    let shares := fun (e : Option BoostEntry) =>
      [e.bind BoostEntry.left, e.bind BoostEntry.up, e.bind BoostEntry.right, e.bind BoostEntry.down]
    let directionsIn := fun (e : Option BoostEntry) =>
      byteOf (bit (e.bind BoostEntry.left).isSome 1 + bit (e.bind BoostEntry.up).isSome 2 +
        bit (e.bind BoostEntry.right).isSome 4 + bit (e.bind BoostEntry.down).isSome 8)
    let bytes := fun (n : Nat) =>
      [byteOf n, byteOf (n / 256), byteOf (code (s.plan.selectOf n) + 4 * code (s.scan.selectOf n)),
        byteOf (bit (IndexSet.has s.plan.edited n) 1 + bit (IndexSet.has s.plan.shortfall n) 2 +
          bit (IndexSet.has s.plan.deferred n) 4),
        directionsIn (s.plan.entryOf n), directionsIn (s.scan.entryOf n)] ++
      (shares (s.plan.entryOf n) ++ shares (s.scan.entryOf n)).map (fun share => byteOf (share.getD 1 - 1))
    (55295 < start → Refused .readPlan s m rest 3) ∧
    (start ≤ 55295 → ∃ (t : State) (given : List Nat) (next : Nat), exec .readPlan s = .next t ∧
      FirstOf id (fun n => start ≤ n ∧ interest n) 2 given ∧
      ((∀ n, start ≤ n → interest n → n ∈ given) → next = 0xFFFFFF) ∧
      ((∃ n, start ≤ n ∧ interest n ∧ n ∉ given) → ∃ last, given.getLast? = some last ∧ next = last + 1) ∧
      Answered s t m rest ([0] ++ bytesOf 3 next ++ given.flatMap bytes) ∧
      OnlyChanges [.control] s t)

/-- The recompute of a channel (R143 to R145), and the phases of a round (R140 to R142).  The neighbours that can serve are
judged in the order LEFT, UP, RIGHT, DOWN: one that holds an entry once the boosts aimed at the channel are gone is admitted,
one without while there is room for its entry; each one refused counts BOOST_DROPS and raises BOOST_FULL, and the channel
bears the shortfall mark while any is.  Each of the k admitted gets one boost back toward the channel, with share floor(F ×
256 / (100 × k)), every other boost stays, and with none admitted UNCOVERED is raised; with F at 0 the boosts go and nothing
else happens; no other channel's shortfall mark moves.  Phases 2 and 3 recompute the LOST channels of the recompute set, then
once more each LOST channel that bears a shortfall mark, in ascending order; one that lies on or beside a held slot takes the
deferred mark instead (R149, R150), and the round marks what it left different (R134).  Phase 1, for a re-derive set of the
channel `n` and, above it, `rest`: a frozen `n` takes the deferred mark alone, whatever its derived select (log entry 6);
otherwise its pending select becomes the derived one.  From A or B to OFF, LOST is raised, its entry goes, and it and its LOST
neighbours join the recompute set; from OFF, the boosts aimed at it and its shortfall mark go and its LOST neighbours join;
between A and B nothing else moves.  The round goes on from there with `rest`. -/
def Obligations.RecomputePlacesShares : Prop :=
  (∀ (s : State) (n : Nat), Table.canonical s.plan.boost = true →
    let donor := fun (m : Nat) => s.layout.fitted (slotOfChannel m) = true ∧
      s.sense.modules[slotOfChannel m].state ≠ .dark ∧ s.plan.selectOf m ≠ .off ∧
      (s.capture.held.getLsbD (slotOfChannel m) && s.layout.fitted (slotOfChannel m)) = false
    let candidate := fun (d : Direction) => ∃ m, s.layout.neighbour n d = some m ∧ donor m
    let remains := fun (e : Nat × BoostEntry) => ∀ d, s.layout.neighbour n d = some e.1 →
      ∃ d', d' ≠ d.opposite ∧ e.2.share d' ≠ none
    let lists := fun (d : Direction) => ∃ e ∈ s.plan.boost, s.layout.neighbour n d = some e.1 ∧ remains e
    ∃ (kept : List (Nat × BoostEntry)) (admitted refused : List Direction),
      kept.Sublist s.plan.boost ∧ (∀ e ∈ s.plan.boost, e ∈ kept ↔ remains e) ∧
      admitted.Nodup ∧ refused.Nodup ∧ (∀ d, d ∈ admitted ∨ d ∈ refused ↔ candidate d) ∧
      (∀ d, candidate d →
        ∃ before : List Direction, before.Nodup ∧
          (∀ d', d' ∈ before ↔ d' ∈ directions.takeWhile (fun x => decide (x ≠ d)) ∧ candidate d' ∧ ¬ lists d') ∧
          (d ∈ admitted ↔ lists d ∨ kept.length + before.length < 2048) ∧
          (d ∈ refused ↔ ¬ lists d ∧ 2048 ≤ kept.length + before.length)) ∧
      let f := s.params.f
      let k := admitted.length
      let t := recompute n s
      (∀ (d : Direction) (m : Nat), s.layout.neighbour n d = some m →
        (t.plan.entryOf m).bind (fun e => e.share d.opposite) =
          if d ∈ admitted ∧ 1 ≤ f * 256 / (100 * k) then some (f * 256 / (100 * k)) else none) ∧
      (∀ (m : Nat) (d : Direction), s.layout.neighbour n d.opposite ≠ some m →
        (t.plan.entryOf m).bind (fun e => e.share d) = (s.plan.entryOf m).bind (fun e => e.share d)) ∧
      (f ≠ 0 → t.events.counter .boostDrops = s.events.counter .boostDrops + BitVec.ofNat 16 refused.length ∧
        (refused ≠ [] → t.events.pends .boostFull = true) ∧ (k = 0 → t.events.pends .uncovered = true)) ∧
      (f = 0 → t.events = s.events) ∧
      IndexSet.has t.plan.shortfall n = (decide (f ≠ 0) && decide (refused ≠ [])) ∧
      (∀ m, m ≠ n → IndexSet.has t.plan.shortfall m = IndexSet.has s.plan.shortfall m) ∧
      (∀ m, s.plan.entryOf m ≠ some BoostEntry.empty → t.plan.entryOf m ≠ some BoostEntry.empty) ∧
      t.plan = { s.plan with boost := t.plan.boost, shortfall := t.plan.shortfall } ∧
      OnlyChanges [.plan, .events] s t) ∧
  (∀ (s : State) (wanted phase2 phase3 : List Nat), Table.canonical s.plan.shortfall = true →
    let onHeld := fun (m : Nat) =>
      (s.capture.held.getLsbD (slotOfChannel m) && s.layout.fitted (slotOfChannel m)) = true
    let frozen := fun (n : Nat) => onHeld n ∨ ∃ m ∈ s.layout.neighbours n, onHeld m
    let u := phase2.foldl (fun v n => recompute n v) s
    let v := phase3.foldl (fun v n => recompute n v) u
    let t := takeRound [] wanted s
    phase2.Pairwise (· < ·) → (∀ n, n ∈ phase2 ↔ n ∈ wanted ∧ s.plan.selectOf n = .off ∧ ¬ frozen n) →
    phase3.Pairwise (· < ·) →
    (∀ n, n ∈ phase3 ↔ IndexSet.has u.plan.shortfall n = true ∧ s.plan.selectOf n = .off ∧ ¬ frozen n) →
    t.plan = { v.plan with edited := t.plan.edited, deferred := t.plan.deferred } ∧ t.events = v.events ∧
      (s.capture.held = 0 → t.plan.deferred = s.plan.deferred) ∧
      (∀ n, IndexSet.has t.plan.deferred n = true ↔ IndexSet.has s.plan.deferred n = true ∨
        (s.plan.selectOf n = .off ∧ frozen n ∧ (n ∈ wanted ∨ IndexSet.has u.plan.shortfall n = true))) ∧
      ∀ n, IndexSet.has t.plan.edited n =
        (IndexSet.has s.plan.edited n || decide (v.plan.entryOf n ≠ s.plan.entryOf n))) ∧
  ∀ (s : State) (n : Nat) (rest wanted : List Nat), Table.canonical s.plan.boost = true →
    let want := s.derivedSelect n
    let was := s.plan.selectOf n
    let onHeld := fun (m : Nat) =>
      (s.capture.held.getLsbD (slotOfChannel m) && s.layout.fitted (slotOfChannel m)) = true
    let frozen := onHeld n ∨
      (want ≠ was ∧ (want = .off ∨ was = .off) ∧ ∃ m ∈ s.layout.neighbours n, onHeld m)
    let t := takeRound (n :: rest) wanted s
    let goesOn := fun (u : State) (joins : Nat → Prop) => ∀ wanted' : List Nat,
      (∀ m, m ∈ wanted' ↔ m ∈ wanted ∨ joins m) →
      t.plan = { (takeRound rest wanted' u).plan with edited := t.plan.edited } ∧ t.events = (takeRound rest wanted' u).events
    (∀ m, IndexSet.has t.plan.edited m = (IndexSet.has s.plan.edited m ||
      decide (t.plan.selectOf m ≠ s.plan.selectOf m ∨ t.plan.entryOf m ≠ s.plan.entryOf m))) ∧
    ∃ u : State, OnlyChanges [.plan, .events] s u ∧
      let beside := fun (m : Nat) => m ∈ s.layout.neighbours n ∧ u.plan.selectOf m = .off
      (frozen → u.plan = { s.plan with deferred := u.plan.deferred } ∧ u.events = s.events ∧
        (∀ m, IndexSet.has u.plan.deferred m = (IndexSet.has s.plan.deferred m || decide (m = n))) ∧
        goesOn u (fun _ => False)) ∧
      (¬ frozen →
        u.plan = { s.plan with select := u.plan.select, boost := u.plan.boost, shortfall := u.plan.shortfall } ∧
        (∀ m, u.plan.selectOf m = if m = n then want else s.plan.selectOf m) ∧
        (want = was → u = s ∧ goesOn u (fun _ => False)) ∧
        (want ≠ was → want = .off → u.events = s.events.raised .lost ∧ u.plan.shortfall = s.plan.shortfall ∧
          (∀ m, u.plan.entryOf m = if m = n then none else s.plan.entryOf m) ∧
          goesOn u (fun m => m = n ∨ beside m)) ∧
        (want ≠ was → was = .off → u.events = s.events ∧
          (∀ m, IndexSet.has u.plan.shortfall m = (IndexSet.has s.plan.shortfall m && decide (m ≠ n))) ∧
          (∀ (m : Nat) (d : Direction), (u.plan.entryOf m).bind (fun e => e.share d) =
            if s.layout.neighbour n d.opposite = some m then none else (s.plan.entryOf m).bind (fun e => e.share d)) ∧
          (∀ m, s.plan.entryOf m ≠ some BoostEntry.empty → u.plan.entryOf m ≠ some BoostEntry.empty) ∧
          goesOn u beside) ∧
        (want ≠ was → want ≠ .off → was ≠ .off → u.events = s.events ∧ u.plan.boost = s.plan.boost ∧
          u.plan.shortfall = s.plan.shortfall ∧ goesOn u (fun _ => False)))

/-! ## Capture Unit -/

/-- ARM_CAPTURE: a complete arming that passes the checks replaces the stored one, empties the snapshot, makes the unit
ARMED and leaves the held slots; any failure refuses the whole message with BAD_ARG (R160, R161). -/
def Obligations.ArmCaptureReplacesArming : Prop :=
  ∀ (s : State) (m : Message) (rest : List Message) (k0 k1 x0 y0 x1 y1 colours combine mask rearm : Byte),
    Handing s m rest → m.kind = 0x28 → m.payload = [k0, k1, x0, y0, x1, y1, colours, combine, mask, rearm] →
    let kinds := BitVec.ofNat 11 (k0.toNat + 256 * k1.toNat)
    let given1 := kinds ≠ 0
    let given2 := colours.truncate 3 ≠ 0#3
    let accepted := (given2 → x0 ≤ x1 ∧ y0 ≤ y1) ∧ rearm ≤ 1 ∧
      ((combine = 0 ∧ given1 ∧ ¬ given2) ∨ (combine = 1 ∧ ¬ given1 ∧ given2) ∨
        ((combine = 2 ∨ combine = 3) ∧ given1 ∧ given2))
    (accepted → ∃ t, exec .armCapture s = .next t ∧
      t.capture =
        { state := .armed, snapshot := none, held := s.capture.held
          arming :=
            { kinds := kinds
              place := if colours.truncate 3 = 0#3 then none else some
                { region := { x0 := x0.toNat, y0 := y0.toNat, x1 := x1.toNat, y1 := y1.toNat },
                  colours := colours.truncate 3 }
              combine := if combine = 0 then .m1 else if combine = 1 then .m2 else if combine = 2 then .both else .either
              holdMask := mask, autoRearm := decide (rearm = 1) } } ∧
      Answered s t m rest [0, byteOf s.capture.state.code, flagByte s.capture.snapshot.isSome, s.capture.held] ∧
      OnlyChanges [.capture, .control] s t) ∧
    (¬ accepted → Refused .armCapture s m rest 3)

/-- DISARM makes the unit DISARMED and leaves the arming, the snapshot and the held slots (R169); READ_CAPTURE reports the
state, the held slots and the snapshot, in the form of R191, and changes nothing (R170). -/
def Obligations.CaptureIsDisarmedAndRead : Prop :=
  ∀ (s : State) (m : Message) (rest : List Message), Handing s m rest → m.payload = [] →
    let c := s.capture
    (m.kind = 0x29 → ∃ t, exec .disarm s = .next t ∧ t.capture = { c with state := .disarmed } ∧
      Answered s t m rest [0, byteOf c.state.code, c.held] ∧ OnlyChanges [.capture, .control] s t) ∧
    (m.kind = 0x2A → ∃ t, exec .readCapture s = .next t ∧ OnlyChanges [.control] s t ∧
      (c.snapshot = none → Answered s t m rest [0, byteOf c.state.code, c.held, 0]) ∧
      ∀ n, c.snapshot = some n →
        Answered s t m rest ([0, byteOf c.state.code, c.held, 1] ++
          [byteOf (n.transition.kind.code + 16 * n.transition.fault.code)] ++ bytesOf 3 n.transition.die ++
          bytesOf 4 n.transition.pass.toNat ++
          (match n.record with
            | none => 0 :: List.replicate 13 0
            | some r => 1 :: recordBytes n.transition.die r) ++
          [byteOf (n.pendingSelect.code + 4 * n.liveSelect.code)] ++
          [byteOf ((if n.liveBoost.left.isSome then 1 else 0) + (if n.liveBoost.up.isSome then 2 else 0) +
            (if n.liveBoost.right.isSome then 4 else 0) + (if n.liveBoost.down.isSome then 8 else 0)),
           byteOf (n.liveBoost.left.getD 1 - 1), byteOf (n.liveBoost.up.getD 1 - 1),
           byteOf (n.liveBoost.right.getD 1 - 1), byteOf (n.liveBoost.down.getD 1 - 1)] ++
          [byteOf n.moduleState.code, byteOf n.settle] ++ bytesOf 4 n.passNumber.toNat))

/-- RELEASE_HOLD: with no slot held nothing changes; otherwise the held slots become empty, every deferred channel is staged
at its derived select, no deferred mark is left and no other channel's pending select changes (R168, R151). -/
def Obligations.ReleaseHoldResolvesDeferred : Prop :=
  ∀ (s : State) (m : Message) (rest : List Message), Handing s m rest → m.kind = 0x2B → m.payload = [] →
    (s.capture.held = 0 → ∃ t, exec .releaseHold s = .next t ∧ Answered s t m rest [0, 0] ∧
      OnlyChanges [.control] s t) ∧
    (s.capture.held ≠ 0 → ∃ t, exec .releaseHold s = .next t ∧ t.capture = { s.capture with held := 0 } ∧
      t.plan.deferred = [] ∧
      (∀ n, IndexSet.has s.plan.deferred n = true → t.plan.selectOf n = s.derivedSelect n) ∧
      (∀ n, IndexSet.has s.plan.deferred n = false → t.plan.selectOf n = s.plan.selectOf n) ∧
      Answered s t m rest [0, s.capture.held] ∧ OnlyChanges [.capture, .plan, .events, .control] s t)

/-- A transition offered to an ARMED unit, here the PINNED of a PIN that creates a record: a match stores the snapshot as it
stands before the planner answers, moves the state, raises CAPTURE_FIRED, adds the hold mask to the held slots and counts an
overwrite under AUTO_REARM; a PIN DEAD on a slot so held is deferred.  No match changes the unit (R162 to R166, R108, R150).
That the channel takes the deferred mark whatever its derived select, so that a pin of its die B marks it too, is the model's
reading (log entry 6). -/
def Obligations.MatchTakesSnapshotAndHolds : Prop :=
  ∀ (s : State) (m : Message) (rest : List Message) (d0 d1 d2 k : Byte),
    Handing s m rest → m.kind = 0x18 → m.payload = [d0, d1, d2, k] → k = 0 ∨ k = 1 →
    let die := d0.toNat + 256 * d1.toNat + 65536 * d2.toNat
    let n := dieChannel die
    s.layout.status = .set → s.layout.presentDie die = true → Table.fetch s.map.records die = none →
    s.map.records.length < 1024 → s.capture.state = .armed →
    let a := s.capture.arming
    let now := s.scan.passNumber
    let fits1 := a.kinds.getLsbD 8 = true
    let fits2 := ∃ q, a.place = some q ∧ q.region.x0 ≤ channelX n ∧ channelX n ≤ q.region.x1 ∧
      q.region.y0 ≤ channelY n ∧ channelY n ≤ q.region.y1 ∧ q.colours.getLsbD (channelColour n) = true
    let fits := (a.combine = .m1 ∧ fits1) ∨ (a.combine = .m2 ∧ fits2) ∨ (a.combine = .both ∧ fits1 ∧ fits2) ∨
      (a.combine = .either ∧ (fits1 ∨ fits2))
    ∃ t, exec .pin s = .next t ∧
      (¬ fits → t.capture = s.capture) ∧
      (fits → t.capture =
          { state := if a.autoRearm then .armed else .fired, arming := a, held := s.capture.held ||| a.holdMask
            snapshot := some
              { transition := { kind := .pinned, die := die, fault := .none, pass := now }
                record := some
                  { state := if k = 0 then .pinnedDead else .pinnedGood, fault := .none, hits := 0, passes := 0,
                    firstPass := now, statePass := now, source := .hostPin }
                pendingSelect := s.plan.selectOf n, liveSelect := s.scan.selectOf n
                liveBoost := (s.scan.entryOf n).getD { left := none, up := none, right := none, down := none }
                moduleState := s.sense.modules[slotOfChannel n].state, settle := s.sense.modules[slotOfChannel n].settle
                passNumber := now } } ∧
        t.events.pends .captureFired = true ∧
        t.events.counter .captureOverwrites = s.events.counter .captureOverwrites +
          (if a.autoRearm = true ∧ s.capture.snapshot.isSome = true then 1 else 0) ∧
        (k = 0 → a.holdMask.getLsbD (slotOfChannel n) = true →
          t.plan.selectOf n = s.plan.selectOf n ∧ IndexSet.has t.plan.deferred n = true))

/-! ## Display -/

/-- STANDBY: answered at once in STANDBY, and nothing changes; in WAKING or ACTIVE the request waits, with its reply owed and
the message in hand (R63, R178). -/
def Obligations.StandbyAnsweredOrWaits : Prop :=
  ∀ (s : State) (m : Message) (rest : List Message), Handing s m rest → m.kind = 0x30 → m.payload = [] →
    (s.scan.display = .standby → ∃ t, exec .standby s = .next t ∧ Answered s t m rest [0, 0] ∧
      OnlyChanges [.control] s t) ∧
    (s.scan.display ≠ .standby → ∃ t, exec .standby s = .next t ∧
      t.scan = { s.scan with standby := .requestedOwed } ∧ t.control = { s.control with inHand := true } ∧
      OnlyChanges [.scan, .control] s t)

/-- WAKE: from STANDBY with the layout SET the first WAKING pass begins at once, so 15 WAKING passes remain; while UNSET it is
refused with WRONG_STATE; in WAKING or ACTIVE it is answered OK and changes nothing (R60, R57). -/
def Obligations.WakeStartsWaking : Prop :=
  ∀ (s : State) (m : Message) (rest : List Message), Handing s m rest → m.kind = 0x31 → m.payload = [] →
    (s.scan.display = .standby → s.layout.status = .set → ∃ t, exec .wake s = .next t ∧
      t.scan.display = .waking ∧ t.scan.wakingLeft = 15 ∧ t.scan.phase = .pass ∧ t.scan.clip = false ∧
      t.scan.passNumber = s.scan.passNumber + 1 ∧ t.plan.edited = [] ∧ (s.params.autoStandby = false → t.scan.standby = .none) ∧
      Answered s t m rest [0, 1, flagByte (decide (t.scan.standby ≠ .none))] ∧
      OnlyChanges [.scan, .store, .plan, .events, .control] s t) ∧
    (s.scan.display = .standby → s.layout.status = .unset → Refused .wake s m rest 2) ∧
    (s.scan.display ≠ .standby → ∃ t, exec .wake s = .next t ∧
      Answered s t m rest [0, byteOf s.scan.display.code, flagByte (decide (s.scan.standby ≠ .none))] ∧
      OnlyChanges [.control] s t)

/-- RESTART: capture, display, input and store return to their start state, FITTED modules become ONLINE with settle 8, a
RUNNING long command ends ABORTED with its counts as they stand, and a RETEST's records, each counted in abandoned, return to
CONFIRMED with RETEST_ABANDONED at the tail of the Transition Queue, every deferred channel is staged at its derived select,
and the event bits and counters are cleared; the mask, the pass number, the live tables, the patrol cursor, the service
position, every other record, the selects of channels not deferred and the entries of channels beside no LOST and no deferred
one are kept, and the whole plan is when there is nothing to resolve (R187, with R37, R54, R76, R102, R130, R158, R172, R188,
R201).  `rowsLit`, the group inside `Receiver.powerOn`, `requests` and `gapNumber` are the model's own (log entries 10, 11,
29, 30). -/
def Obligations.RestartReturnsBlocks : Prop :=
  ∀ (s : State) (m : Message) (rest : List Message), Handing s m rest → m.kind = 0x32 → m.payload = [] →
    TablesCanonical s →
    let l := s.sense.long
    let giveBack := l.running = true ∧ l.kind = .retest
    ∃ t, exec .restart s = .next t ∧
      t.capture = { state := .disarmed, arming := Arming.off, snapshot := none, held := 0 } ∧
      t.scan = { s.scan with
        display := .standby, phase := .none, standby := .none, wakingLeft := 0, clip := false, rowsLit := 0,
        ports := Vector.replicate 8 [] } ∧
      t.input = Receiver.powerOn ∧ t.store = List.replicate s.layout.height Row.black ∧
      t.sense.gap = [] ∧ t.sense.requests = Vector.replicate 8 [] ∧ t.sense.probeTurn = none ∧
      t.sense.patrol = s.sense.patrol ∧ t.sense.servicePos = s.sense.servicePos ∧
      (∀ i : Fin 8, s.layout.fitted i = true →
        t.sense.modules[i] = { state := .online, settle := 8, noAnswer := 0, probeCursor := none }) ∧
      (∀ i : Fin 8, s.layout.fitted i = false → t.sense.modules[i].state = s.sense.modules[i].state) ∧
      t.sense.gapNumber = s.sense.gapNumber ∧
      (l.running = true → t.sense.long = { l with
        running := false, outcome := .aborted
        abandoned := if l.kind = .retest then
          l.abandoned + (s.map.records.filter fun e => decide (e.2.state = .retest)).length else l.abandoned }) ∧
      (l.running = false → t.sense.long = l) ∧
      (∀ d, Table.fetch t.map.records d = (Table.fetch s.map.records d).map fun r =>
        if giveBack ∧ r.state = .retest then
          { r with state := .confirmed, hits := 0, passes := 0, statePass := s.scan.passNumber }
        else r) ∧
      (giveBack → s.map.queue.length ≤ 64 → t.map.queue = appended s.map.queue
        ((s.map.records.filter fun e => decide (e.2.state = .retest)).map fun e =>
          { kind := .retestAbandoned, die := e.1, fault := e.2.fault, pass := s.scan.passNumber })) ∧
      (¬ giveBack → t.map = s.map) ∧
      t.plan.deferred = [] ∧
      (∀ n, IndexSet.has s.plan.deferred n = true → t.plan.selectOf n = s.derivedSelect n) ∧
      (∀ n, IndexSet.has s.plan.deferred n = false → t.plan.selectOf n = s.plan.selectOf n) ∧
      (∀ n, IndexSet.has s.plan.deferred n = false →
        (∀ j d, s.layout.neighbour j d = some n →
          IndexSet.has s.plan.deferred j = false ∧ s.plan.selectOf j ≠ .off) →
        t.plan.entryOf n = s.plan.entryOf n) ∧
      (s.plan.deferred = [] → s.plan.shortfall = [] →
        (∀ i : Fin 8, s.layout.fitted i = true → s.sense.modules[i].state ≠ .dark) → t.plan = s.plan) ∧
      t.events =
        { bits := 0, mask := s.events.mask, attention := false, counters := Vector.replicate 23 0, overflow := 0 } ∧
      Answered s t m rest [0] ∧
      OnlyChanges [.capture, .scan, .input, .store, .sense, .map, .plan, .events, .control] s t

/-- LIGHT_ROW in a pass: the next row y is lit.  Each FITTED slot of its module row inside the grid is sent 144 drives, sites in
ascending x and colours in the order R, G, B; in ACTIVE each with the value of R67 clamped to 65535 and the die its live select
names, in WAKING each 0 with no die; every other port is silent; the first clamp of the pass sets the clip mark and counts
CLIP_PASSES (R66 to R68, R70).  `rowsLit`, the count of rows lit, is the model's own item (log entry 10), and that a slot the
row does not serve is sent nothing is its reading (log entry 9). -/
def Obligations.LightRowSendsDrives : Prop :=
  ∀ s : State, s.scan.phase = .pass → s.scan.rowsLit < s.layout.height →
    let y := s.scan.rowsLit
    let v := fun (n : Nat) => match s.store[channelY n]? with
      | none => 0
      | some r => if r.blanked then 0 else
          Table.value 0 (if r.display = 0 then r.slot0 else r.slot1) (3 * channelX n + channelColour n)
    let term := fun (n : Nat) (d : Direction) =>
      match (s.scan.entryOf n).bind (fun e => e.share d), s.layout.neighbour n d with
      | some share, some l => v l * share / 4
      | _, _ => 0
    let pre := fun (n : Nat) => v n * 64 + term n .left + term n .up + term n .right + term n .down
    let out := fun (n : Nat) => match s.scan.selectOf n with
      | .off => 0
      | .a => pre n
      | .b => (pre n * s.layout.record.slots[slotOfChannel n].trim + 128) / 256
    let active := s.scan.display = .active
    let drive := fun (n : Nat) =>
      if active then ({ channel := n, value := min 65535 (out n), lit := match s.scan.selectOf n with
        | .off => none
        | .a => some .a
        | .b => some .b } : Drive)
      else { channel := n, value := 0, lit := none }
    let serves := fun (i : Fin 8) => s.layout.fitted i = true ∧ i / 4 = y / 48 ∧ i % 4 < s.layout.record.mc
    let sent := fun (i : Fin 8) (k : Nat) => channelAt (48 * (i % 4) + k / 3) y (k % 3)
    ∃ t, exec .lightRow s = .next t ∧ t.scan.rowsLit = y + 1 ∧
      (∀ i : Fin 8, t.scan.ports[i] =
        if serves i then (List.range 144).map (fun k => drive (sent i k)) else []) ∧
      ((active ∧ s.scan.clip = false ∧ ∃ i : Fin 8, serves i ∧ ∃ k < 144, 65535 < out (sent i k)) →
        t.scan.clip = true ∧ t.events = s.events.counted .clipPasses) ∧
      (¬ (active ∧ s.scan.clip = false ∧ ∃ i : Fin 8, serves i ∧ ∃ k < 144, 65535 < out (sent i k)) →
        t.scan.clip = s.scan.clip ∧ t.events = s.events) ∧
      t.scan = { s.scan with clip := t.scan.clip, rowsLit := y + 1, ports := t.scan.ports } ∧
      OnlyChanges [.scan, .events] s t

/-- PASS_END with a standby request waiting: the display enters STANDBY, the ports go silent, a frame in reception is cut and
the receiver goes to DISCARD, a RUNNING long command ends HALTED_BY_STANDBY with LONG_DONE raised, a RETEST's records return to
CONFIRMED and count in abandoned, and the owed reply is formed (R64, R33, R99, R118).  That the cut leaves no escape pending is
log entry 20, and that the receiver's other items keep their values is log entry 23. -/
def Obligations.PassEndEntersStandby : Prop :=
  ∀ s : State, s.scan.phase = .pass → s.layout.height ≤ s.scan.rowsLit → s.scan.standby ≠ .none →
    let closed := fun (r : Row) => match s.input.mode, r.incoming with
      | .blank, _ => { r with pend := .black }
      | .written, .good => { r with pend := .content, incoming := .none }
      | .written, .bad => { r with pend := .none, incoming := .none }
      | .written, .filling => { r with pend := .none, incoming := .none }
      | .written, .none => r
    ∃ t, exec .passEnd s = .next t ∧
      t.scan = { s.scan with
        display := .standby, phase := .none, wakingLeft := 0, standby := .none, ports := Vector.replicate 8 [] } ∧
      (s.input.state = .rows →
        t.input = { s.input with state := .discard, escape := false } ∧ t.store = s.store.map closed ∧
        t.events.counter .framesCut = s.events.counter .framesCut + 1) ∧
      (s.input.state ≠ .rows → t.input = s.input ∧ t.store = s.store) ∧
      (s.sense.long.running = true →
        t.sense.long.running = false ∧ t.sense.long.outcome = .haltedByStandby ∧ t.events.pends .longDone = true) ∧
      (s.sense.long.running = true → s.sense.long.kind ≠ .retest → t.map = s.map ∧
        t.sense.long = { s.sense.long with running := false, outcome := .haltedByStandby }) ∧
      (s.sense.long.running = true → s.sense.long.kind = .retest → Table.canonical s.map.records = true →
        let back := s.map.records.filter fun e => decide (e.2.state = .retest)
        t.sense.long = { s.sense.long with
          running := false, outcome := .haltedByStandby, abandoned := s.sense.long.abandoned + back.length } ∧
        (∀ d, Table.fetch t.map.records d = (Table.fetch s.map.records d).map fun r =>
          if r.state = .retest then
            { r with state := .confirmed, hits := 0, passes := 0, statePass := s.scan.passNumber }
          else r) ∧
        (s.map.queue.length ≤ 64 → t.map.queue = appended s.map.queue (back.map fun e =>
          { kind := .retestAbandoned, die := e.1, fault := e.2.fault, pass := s.scan.passNumber }))) ∧
      (s.sense.long.running = false → t.sense = s.sense ∧ t.map = s.map) ∧ t.plan = s.plan ∧
      (s.scan.standby = .requested → t.control = s.control) ∧
      (∀ m rest, s.scan.standby = .requestedOwed → s.control.queue = m :: rest → Answered s t m rest [0, 0]) ∧
      OnlyChanges ([.scan, .input, .store, .control] ++ dieBlocks) s t

/-- PASS_END with no standby waiting: the phase becomes gap and the ports go silent.  In WAKING nothing else changes.  In
ACTIVE the gap's tests are chosen: at most B, of present dies that are not pinned, no die twice, each outstanding and counted
in TESTS, and each port is sent the requests of its slot's dies, in order (R56, R79, R80).  One probe for each DARK module,
from the probe turn and the probe cursor on (R81); then the dies of SUSPECT and RETEST records off DARK modules, from the
service position on (R82); then a running survey's cursor gives each die in scope its turn, and stops when the budget is spent
(R93); then the patrol takes the rest from its cursor on, and a wrap counts PATROL_CYCLES (R84).  The records are taken to be
for present dies, as R104 says, and the gap list to be empty, as outside a gap it is.  Ports silent in a gap are log entry 9,
the probe cursor after the last die 16, the survey's stop 25, a patrol search that finds no further die 27, the requests as an
item of state 29, and the number the gap takes 30. -/
def Obligations.PassEndChoosesTests : Prop :=
  ∀ s : State, s.scan.phase = .pass → s.layout.height ≤ s.scan.rowsLit → s.scan.standby = .none →
    let gapScan := { s.scan with phase := .gap, ports := Vector.replicate 8 [] }
    let l := s.sense.long
    let slot := fun (d : Nat) => slotOfChannel (dieChannel d)
    let dark := fun (d : Nat) => s.sense.modules[slot d].state = .dark
    let record := fun (d : Nat) => (Table.fetch s.map.records d).map DefectRecord.state
    let probeable := fun (i : Fin 8) (d : Nat) => s.layout.presentDie d = true ∧ slot d = i ∧ s.diePinned d = false
    let undecided := fun (d : Nat) => s.layout.presentDie d = true ∧ (record d = none ∨ record d = some .suspect)
    let inside := fun (d : Nat) => d < 110592 ∧ l.region.x0 ≤ d / 2 / 3 % 192 ∧ d / 2 / 3 % 192 ≤ l.region.x1 ∧
      l.region.y0 ≤ d / 2 / 3 / 192 ∧ d / 2 / 3 / 192 ≤ l.region.y1 ∧ l.colours.getLsbD (d / 2 % 3) = true ∧
      l.dice.getLsbD (d % 2) = true
    (s.scan.display = .waking → exec .passEnd s = .next (s.setScan gapScan)) ∧
    (s.scan.display = .active → s.sense.gap = [] → RecordsPresent s → Table.canonical s.map.records = true →
      ∃ t, exec .passEnd s = .next t ∧ t.scan = gapScan ∧
        let chosen := fun (p : Purpose) => (t.sense.gap.filter fun e => decide (e.purpose = p)).map GapEntry.die
        let left1 := s.params.b - (chosen .probe).length
        let left2 := left1 - (chosen .dueTest).length
        let left3 := left2 - (chosen .survey).length
        let surveys := l.running = true ∧ l.kind = .survey ∧ left2 ≠ 0
        t.sense.gapNumber = s.sense.gapNumber + 1 ∧
        t.sense.gap.length ≤ s.params.b ∧ (t.sense.gap.map GapEntry.die).Nodup ∧
        (∀ e ∈ t.sense.gap, s.layout.presentDie e.die = true ∧ e.outstanding = true ∧
          ∀ r, Table.fetch s.map.records e.die = some r → r.state ≠ .pinnedDead ∧ r.state ≠ .pinnedGood) ∧
        t.events.counter .tests = s.events.counter .tests + BitVec.ofNat 16 t.sense.gap.length ∧
        (∀ i : Fin 8, t.sense.requests[i] = (t.sense.gap.map GapEntry.die).filter fun d => decide (slot d = i)) ∧
        ((∀ i : Fin 8, s.sense.modules[i].state ≠ .dark) →
          (s.map.records.filter fun e => decide (e.2.state = .suspect ∨ e.2.state = .retest)).length ≤ s.params.b →
          ∀ e ∈ s.map.records, e.2.state = .suspect ∨ e.2.state = .retest → e.1 ∈ t.sense.gap.map GapEntry.die) ∧
        (∃ probed : List (Fin 8),
          FirstOf (fun i => match s.sense.probeTurn with
              | none => i.val
              | some turn => if turn < i then i.val else i.val + 8)
            (fun i => s.sense.modules[i].state = .dark ∧ ∃ d, probeable i d) s.params.b probed ∧
          (chosen .probe).length = probed.length ∧ t.sense.probeTurn = probed.getLast?.or s.sense.probeTurn ∧
          (∀ e ∈ probed.zip (chosen .probe),
            FirstOf (fun d => if s.sense.modules[e.1].probeCursor.getD 0 ≤ d then d else d + 110592)
              (probeable e.1) 1 [e.2] ∧
            t.sense.modules[e.1] = { s.sense.modules[e.1] with
              probeCursor := if e.2 + 1 < 110592 then some (e.2 + 1) else none }) ∧
          ∀ i : Fin 8, i ∉ probed → t.sense.modules[i] = s.sense.modules[i]) ∧
        FirstOf (fun d => match s.sense.servicePos with
            | none => d
            | some served => if served < d then d else d + 110592)
          (fun d => (record d = some .suspect ∨ record d = some .retest) ∧ ¬ dark d) left1 (chosen .dueTest) ∧
        t.sense.servicePos = (chosen .dueTest).getLast?.or s.sense.servicePos ∧
        (¬ surveys ∨ l.cursor = none →
          t.sense.long = l ∧ chosen .survey = [] ∧ ∀ e ∈ t.sense.gap, e.serves = false) ∧
        (∀ c, surveys → l.cursor = some c →
          let took := fun (d : Nat) =>
            (d = c ∨ (c < d ∧ inside d)) ∧ ∀ stop, t.sense.long.cursor = some stop → d < stop
          t.sense.long = { l with cursor := t.sense.long.cursor, skipped := t.sense.long.skipped } ∧
          (chosen .survey).Pairwise (· < ·) ∧ (chosen .survey).length ≤ left2 ∧
          (∀ d, d ∈ chosen .survey ↔ took d ∧ undecided d ∧ ¬ dark d ∧ d ∉ chosen .dueTest) ∧
          (∀ e ∈ t.sense.gap, e.serves = true ↔ took e.die ∧ undecided e.die ∧ ¬ dark e.die) ∧
          (∃ skips : List Nat, skips.Nodup ∧ (∀ d, d ∈ skips ↔ took d ∧ undecided d ∧ dark d) ∧
            t.sense.long.skipped = l.skipped + skips.length) ∧
          ∀ stop, t.sense.long.cursor = some stop → inside stop ∧ (chosen .survey).length = left2 ∧
            ∃ last, (chosen .survey).getLast? = some last ∧ last < stop ∧ ∀ d, last < d → d < stop → ¬ inside d) ∧
        (s.sense.patrol < 110592 →
          FirstOf (fun d => if s.sense.patrol ≤ d then d else d + 110592)
            (fun d => s.layout.presentDie d = true ∧ ¬ dark d ∧ record d = none ∧ d ∉ chosen .survey) left3
            (chosen .patrol) ∧
          t.sense.patrol = (match (chosen .patrol).getLast? with
            | none => s.sense.patrol
            | some d => if d = 110591 then 0 else d + 1) ∧
          t.events.counter .patrolCycles = s.events.counter .patrolCycles +
            (if 110591 ∈ chosen .patrol ∨ ∃ d ∈ chosen .patrol, d < s.sense.patrol then 1 else 0)) ∧
        OnlyChanges [.scan, .sense, .events] s t)

/-- GAP_END: the next pass starts at once.  The pass number rises, the clip mark clears, WAKING passes remaining fall or, when
none is left, the display becomes ACTIVE with WOKEN; the edited channels are copied into the live tables and their marks
cleared; every row takes its pending mark or adds 1 to its held count, and a row held for L passes or more is blanked, counted
and reported (R57, R58, R61, R42 to R47).  `rowsLit` is the model's own item (log entry 10). -/
def Obligations.GapEndStartsPass : Prop :=
  ∀ s : State, s.scan.phase = .gap →
    let visited := fun (r : Row) => match r.pend with
      | .content => { r with display := if r.display = 0 then 1 else 0, pend := .none, held := 0, blanked := false }
      | .black => if r.display = 0 then { r with slot0 := [], pend := .none, held := 0, blanked := false }
          else { r with slot1 := [], pend := .none, held := 0, blanked := false }
      | .none => { r with held := if r.held < 65535 then r.held + 1 else 65535 }
    let stale := fun (r : Row) =>
      decide (s.params.l ≠ 0) && !(visited r).blanked && decide (s.params.l ≤ (visited r).held)
    let after := fun (r : Row) => if stale r then { visited r with blanked := true } else visited r
    let newly := (s.store.filter stale).length
    ∃ t, exec .gapEnd s = .next t ∧ t.scan.passNumber = s.scan.passNumber + 1 ∧ t.scan.clip = false ∧
      t.scan.phase = .pass ∧ t.scan.rowsLit = 0 ∧
      (s.scan.display = .active → t.scan.display = .active) ∧
      (s.scan.display = .waking → s.scan.wakingLeft = 0 → t.scan.display = .active ∧ t.events.pends .woken = true) ∧
      (s.scan.display = .waking → s.scan.wakingLeft ≠ 0 →
        t.scan.display = .waking ∧ t.scan.wakingLeft = s.scan.wakingLeft - 1 ∧
        t.events.pends .woken = s.events.pends .woken) ∧
      t.plan.edited = [] ∧
      (∀ n, IndexSet.has s.plan.edited n = true →
        t.scan.selectOf n = t.plan.selectOf n ∧ t.scan.entryOf n = t.plan.entryOf n) ∧
      t.store = s.store.map after ∧
      t.events.counter .rowsBlanked = s.events.counter .rowsBlanked + BitVec.ofNat 16 newly ∧
      (newly ≠ 0 → t.events.pends .staleRow = true) ∧
      t.scan.standby =
        (if s.params.autoStandby = true ∧ newly ≠ 0 ∧ (∀ r ∈ s.store, (after r).blanked = true) ∧ s.scan.standby = .none
          then .requested else s.scan.standby) ∧
      OnlyChanges [.scan, .store, .plan, .sense, .events] s t

/-- GAP_END of an ACTIVE gap: every outstanding test takes NO_ANSWER, each raising its module's run, which holds at 3; a run
that reaches 3 makes an ONLINE or HOT module DARK with MODULE_DARK raised; then settle above 0 falls by 1, a RUNNING survey
whose cursor has passed the end ends COMPLETE with LONG_DONE raised, and the gap list is emptied (R79, R87, R90, R95).  With
no module falling DARK the plan changes by the pass start alone; when one falls, the LOST channels on or beside it are
recomputed with that module DARK (R139, R148, `RecomputePlacesShares`).  A running survey counts each of its tests that took
NO_ANSWER skipped (R94).  That the record of the requests sent empties with the gap list is log entry 29, and the gap's number
log entry 30. -/
def Obligations.SilentModulesGoDark : Prop :=
  ∀ (s : State), s.scan.phase = .gap → s.scan.display = .active → (s.sense.gap.map GapEntry.die).Nodup →
    let beside := fun (i : Fin 8) (n : Nat) => slotOfChannel n = i ∨ ∃ m ∈ s.layout.neighbours n, slotOfChannel m = i
    let unanswered := (s.sense.gap.filter fun e => e.outstanding && e.serves).length
    ∃ t, exec .gapEnd s = .next t ∧ t.sense.gap = [] ∧ t.sense.requests = Vector.replicate 8 [] ∧
      t.sense.gapNumber = s.sense.gapNumber ∧
      ((∀ j : Fin 8, t.sense.modules[j].state = s.sense.modules[j].state) → t.plan = { s.plan with edited := [] }) ∧
      (∀ (i : Fin 8) (around : List Nat),
        (∀ j : Fin 8, t.sense.modules[j].state ≠ s.sense.modules[j].state ↔ j = i) →
        (∀ n, n ∈ around ↔ s.plan.selectOf n = .off ∧ beside i n) →
        t.plan = { (takeRound [] around (s.setSense { s.sense with modules := t.sense.modules })).plan with edited := [] }) ∧
      t.sense.long.skipped = s.sense.long.skipped + unanswered ∧
      t.sense.long.tested = s.sense.long.tested ∧ t.sense.long.faults = s.sense.long.faults ∧
      (∀ i : Fin 8, s.layout.fitted i = true → s.sense.modules[i].noAnswer ≤ 3 →
        let before := s.sense.modules[i]
        let k := (s.sense.gap.filter fun e =>
          e.outstanding && decide (slotOfChannel (dieChannel e.die) = i)).length
        let falls := 1 ≤ k ∧ 3 ≤ before.noAnswer + k ∧ (before.state = .online ∨ before.state = .hot)
        t.sense.modules[i] =
            { before with
              state := if falls then .dark else before.state
              noAnswer := min 3 (before.noAnswer + k), settle := before.settle - 1 } ∧
          (falls → t.events.pends .moduleDark = true)) ∧
      (s.sense.long.running = true → s.sense.long.kind = .survey → s.sense.long.cursor = none →
        t.sense.long.running = false ∧ t.sense.long.outcome = .complete ∧ t.events.pends .longDone = true) ∧
      t.map = s.map

/-! ## Results of tests -/

/-- GAP_TEST_ANSWER for a die with no record, handed on by R85, with room in the map: OK creates nothing, OPEN opens a SUSPECT
window of one hit in one test (decided at once when C is 1), SHORT makes a CONFIRMED record with two transitions; OK and SHORT
are handed on whatever the module state (R85, R88, R89, R109, R126).  A test that serves the survey counts tested, and a fault
found unless it is OK (R94).  The CONFIRMED die is dead: unless a capture is ARMED, the planner takes the round of its
channel, which with nothing held leaves it at its derived select (R108, R139, R140).  That the answer names its gap by number
is log entry 30. -/
def Obligations.AnswerOpensRecord : Prop :=
  ∀ (s : State) (e : GapEntry) (o : TestAnswer) (hot : Bool), e ∈ s.sense.gap → e.outstanding = true →
    let die := e.die
    let i := slotOfChannel (dieChannel die)
    let before := s.sense.modules[i]
    let l := s.sense.long
    let now := s.scan.passNumber
    HandsOn s die o hot → Table.fetch s.map.records die = none →
    s.map.records.length < 1024 → s.map.queue.length ≤ 64 → ParamsInRange s →
    let fault : DieFault := if o = .opened then .opened else .shorted
    let fresh : DefectRecord :=
      { state := .confirmed, fault := fault, hits := 0, passes := 0, firstPass := now, statePass := now,
        source := .sensed }
    let logged := fun (k : TransitionKind) => ({ kind := k, die := die, fault := fault, pass := now } : Transition)
    ∃ t, exec (.gapTestAnswer ⟨die, s.sense.gapNumber⟩ o hot) s = .next t ∧
      t.sense.modules[i] = { before with
        state := if hot then .hot else .online
        settle := if before.state = .dark ∨ (before.state = .hot ∧ hot = false) then 8 else before.settle
        noAnswer := 0 } ∧
      (∀ d, d ≠ die → Table.fetch t.map.records d = Table.fetch s.map.records d) ∧
      (o = .ok → t.map = s.map ∧ (before.state ≠ .dark → t.plan = s.plan)) ∧
      (o = .opened → 1 < s.params.c →
        Table.fetch t.map.records die = some { fresh with state := .suspect, hits := 1, passes := 1 } ∧
        t.map.queue = appended s.map.queue [logged .newSuspect] ∧ t.plan = s.plan) ∧
      (o = .shorted ∨ (o = .opened ∧ s.params.c = 1) →
        Table.fetch t.map.records die = some fresh ∧
        t.map.queue = appended s.map.queue [logged .newSuspect, logged .confirmed] ∧
        t.events.pends .confirmed = true ∧ t.events.counter .confirmations = s.events.counter .confirmations + 1 ∧
        (s.capture.state ≠ .armed →
          (before.state ≠ .dark → t.plan = (takeRound [dieChannel die] []
            ((s.setSense { s.sense with modules := t.sense.modules }).setMap t.map)).plan) ∧
          (s.capture.held = 0 → t.plan.selectOf (dieChannel die) = t.derivedSelect (dieChannel die)))) ∧
      ((s.sense.gap.map GapEntry.die).Nodup → t.sense.long =
        if e.serves then { l with tested := l.tested + 1, faults := if o = .ok then l.faults else l.faults + 1 } else l) ∧
      OnlyChanges dieBlocks s t

/-- GAP_TEST_ANSWER for a SUSPECT or RETEST record, handed on by R85: OK and OPEN count one test and the window is judged
against W and C, a SHORT decides at once.  A SUSPECT record is confirmed, removed as TRANSIENT or left standing; a RETEST
record is reconfirmed, removed as RESTORED or left standing, and reconfirming it leaves the plan (R85, R110 to R112, R116,
R117, R126).  A SUSPECT die confirmed turns dead and a RESTORED one alive: unless a capture is ARMED, the planner takes the
round of its channel, which with nothing held leaves it at its derived select (R108, R139, R140).  A RETEST record that is
decided counts reconfirmed or restored, and when no other record is in RETEST the RETEST ends COMPLETE with LONG_DONE raised
(R97).  A test that serves the survey counts tested, and a fault found unless it is OK (R94).  That the answer names its gap
by number is log entry 30. -/
def Obligations.AnswerDecidesWindow : Prop :=
  ∀ (s : State) (e : GapEntry) (r : DefectRecord) (o : TestAnswer) (hot : Bool), e ∈ s.sense.gap → e.outstanding = true →
    let die := e.die
    HandsOn s die o hot → Table.fetch s.map.records die = some r →
    r.state = .suspect ∨ r.state = .retest → s.map.queue.length ≤ 64 →
    let answering := s.sense.modules[slotOfChannel (dieChannel die)].state ≠ .dark
    let hits := if o = .opened then r.hits + 1 else r.hits
    let passes := r.passes + 1
    let fault := match o with
      | .ok => r.fault
      | .opened => .opened
      | .shorted => .shorted
    let logged := fun (k : TransitionKind) =>
      [({ kind := k, die := die, fault := fault, pass := s.scan.passNumber } : Transition)]
    let suspect := r.state = .suspect
    let distinct := (s.sense.gap.map GapEntry.die).Nodup
    let others := s.map.records.any fun f => decide (f.1 ≠ die ∧ f.2.state = .retest)
    let surveyed := fun (l : LongSlot) =>
      if e.serves then { l with tested := l.tested + 1, faults := if o = .ok then l.faults else l.faults + 1 } else l
    let leaves := fun (t : State) (l : LongSlot) =>
      (suspect → distinct → t.sense.long = surveyed s.sense.long) ∧
      (¬ suspect → distinct → Table.canonical s.map.records = true →
        (others = true → t.sense.long = surveyed l) ∧
        (others = false → t.events.pends .longDone = true ∧
          t.sense.long = { surveyed l with running := false, outcome := .complete }))
    let told := fun (t : State) => s.capture.state ≠ .armed →
      (answering → t.plan = (takeRound [dieChannel die] []
        ((s.setSense { s.sense with modules := t.sense.modules }).setMap t.map)).plan) ∧
      (s.capture.held = 0 → t.plan.selectOf (dieChannel die) = t.derivedSelect (dieChannel die))
    ∃ t, exec (.gapTestAnswer ⟨die, s.sense.gapNumber⟩ o hot) s = .next t ∧
      (∀ d, d ≠ die → Table.fetch t.map.records d = Table.fetch s.map.records d) ∧
      (o = .shorted ∨ s.params.c ≤ hits →
        Table.fetch t.map.records die = some
          { r with state := .confirmed, fault := fault, hits := 0, passes := 0, statePass := s.scan.passNumber } ∧
        t.map.queue = appended s.map.queue (logged (if suspect then .confirmed else .reconfirmed)) ∧
        t.events.pends .confirmed = true ∧ t.events.counter .confirmations = s.events.counter .confirmations + 1 ∧
        (suspect → told t) ∧ (¬ suspect → answering → t.plan = s.plan) ∧
        leaves t { s.sense.long with reconfirmed := s.sense.long.reconfirmed + 1 }) ∧
      (o ≠ .shorted → hits < s.params.c → hits + s.params.w < s.params.c + passes →
        Table.fetch t.map.records die = none ∧
        t.map.queue = appended s.map.queue (logged (if suspect then .transient else .restored)) ∧
        (suspect → (answering → t.plan = s.plan) ∧ t.events.counter .transients = s.events.counter .transients + 1) ∧
        (¬ suspect → t.events.pends .restored = true ∧ told t) ∧
        leaves t { s.sense.long with restored := s.sense.long.restored + 1 }) ∧
      (o ≠ .shorted → hits < s.params.c → s.params.c + passes ≤ hits + s.params.w →
        Table.fetch t.map.records die = some { r with fault := fault, hits := hits, passes := passes } ∧
        t.map.queue = s.map.queue ∧ (answering → t.plan = s.plan) ∧ (distinct → t.sense.long = surveyed s.sense.long)) ∧
      OnlyChanges dieBlocks s t

/-- GAP_TEST_ANSWER: one that arrives after its gap has ended and one for no outstanding test are discarded; any other is
taken once and moves its module by R88 and R89; an OPEN on a module that is then HOT or settling is set aside and counted in
HOT_DISCARDS, and skipped by the survey it served, and a result for a pinned die is not handed on and not counted (R79, R85,
R94).  A result that is not handed on, or is OK for a die with no record, changes the plan only when the module leaves DARK:
then the LOST channels on or beside it are recomputed (R139, R148, `RecomputePlacesShares`).  Three parts are the model's
choice and no rule's: an answer names its gap by number (log entry 30), a die counts as pinned since its choice when it is
pinned as its answer is taken (log entry 31), and the record of requests sent stands until the gap list is emptied, so an
answer leaves it alone (log entry 29). -/
def Obligations.AnswerMovesModule : Prop :=
  ∀ (s : State) (die gapNumber : Nat) (o : TestAnswer) (hot : Bool),
    let i := slotOfChannel (dieChannel die)
    let before := s.sense.modules[i]
    let l := s.sense.long
    let state : ModuleState := if hot then .hot else .online
    let settle := if before.state = .dark ∨ (before.state = .hot ∧ hot = false) then 8 else before.settle
    let aside := o = .opened ∧ (state = .hot ∨ 0 < settle)
    let unheard := s.diePinned die = true ∨ aside ∨ (o = .ok ∧ Table.fetch s.map.records die = none)
    let beside := fun (n : Nat) => slotOfChannel n = i ∨ ∃ m ∈ s.layout.neighbours n, slotOfChannel m = i
    (gapNumber ≠ s.sense.gapNumber ∨ (∀ e ∈ s.sense.gap, e.die = die → e.outstanding = false) →
      exec (.gapTestAnswer ⟨die, gapNumber⟩ o hot) s = .next s) ∧
    (gapNumber = s.sense.gapNumber → (∃ e ∈ s.sense.gap, e.die = die ∧ e.outstanding = true) →
      before.state ≠ .vacant →
      ∃ t, exec (.gapTestAnswer ⟨die, gapNumber⟩ o hot) s = .next t ∧
        t.sense.modules[i] = { before with state := state, settle := settle, noAnswer := 0 } ∧
        (∀ j : Fin 8, j ≠ i → t.sense.modules[j] = s.sense.modules[j]) ∧
        t.sense.gap.map (fun e => (e.die, e.purpose, e.outstanding)) =
          s.sense.gap.map (fun e => (e.die, e.purpose, e.outstanding && decide (e.die ≠ die))) ∧
        t.sense.requests = s.sense.requests ∧ t.sense.gapNumber = s.sense.gapNumber ∧
        (hot = true → before.state ≠ .hot → t.events.pends .moduleHot = true) ∧
        (s.diePinned die = true →
          t.map = s.map ∧ t.sense.long = l ∧ t.events.counter .hotDiscards = s.events.counter .hotDiscards) ∧
        (s.diePinned die = false → aside →
          t.map = s.map ∧ t.events.counter .hotDiscards = s.events.counter .hotDiscards + 1 ∧
          ∀ e ∈ s.sense.gap, e.die = die → e.outstanding = true → (s.sense.gap.map GapEntry.die).Nodup →
            t.sense.long = if e.serves then { l with skipped := l.skipped + 1 } else l) ∧
        (¬ aside → t.events.counter .hotDiscards = s.events.counter .hotDiscards) ∧
        (unheard → before.state ≠ .dark → t.plan = s.plan) ∧
        (unheard → before.state = .dark → ∀ around : List Nat,
          (∀ n, n ∈ around ↔ s.plan.selectOf n = .off ∧ beside n) →
          t.plan = (takeRound [] around (s.setSense { s.sense with modules := t.sense.modules })).plan) ∧
        OnlyChanges dieBlocks s t)

/-- LIVE_SHORT_REPORT on a lit die: the channel is OFF with no entry in the live tables at once, whatever is held, and no
other channel's live select or entry changes; LOST is raised if the pending select was not OFF; the SHORT makes a CONFIRMED
record, confirms a SUSPECT one, reconfirms a RETEST one, changes no other, and is dropped by a full map with none to evict
(`FullMapEvicts` for one with a SUSPECT record to evict); on a held slot the pending select stays OFF and the channel is
deferred, and with nothing held it is staged at its derived select (R71, R72, R73, R109, R112, R117, R120, R150, R153).  That
a report is acted on in whatever row its lit die lies is the model's choice (log entry 7), and that a channel on a held slot
takes the mark whatever its derived select is its reading (log entry 6). -/
def Obligations.LiveShortCutsChannel : Prop :=
  ∀ (s : State) (die : Nat), s.scan.display = .active → s.scan.phase = .pass → s.layout.presentDie die = true →
    let n := dieChannel die
    let now := s.scan.passNumber
    let logged := fun (k : TransitionKind) => ({ kind := k, die := die, fault := .shorted, pass := now } : Transition)
    s.scan.selectOf n = (if die % 2 = 1 then .b else .a) → s.recordState die ≠ some .pinnedGood →
    ∃ t, exec (.liveShortReport die) s = .next t ∧
      t.scan.selectOf n = .off ∧ t.scan.entryOf n = none ∧
      (∀ j, j ≠ n → t.scan.selectOf j = s.scan.selectOf j ∧ t.scan.entryOf j = s.scan.entryOf j) ∧
      t.scan = { s.scan with liveSelect := t.scan.liveSelect, liveBoost := t.scan.liveBoost } ∧
      (s.plan.selectOf n ≠ .off → t.events.pends .lost = true) ∧
      (Table.fetch s.map.records die = none →
        s.map.records.length < 1024 ∨ (∃ e ∈ s.map.records, e.2.state = .suspect) →
        Table.fetch t.map.records die = some
          { state := .confirmed, fault := .shorted, hits := 0, passes := 0, firstPass := now, statePass := now,
            source := .sensed } ∧
        (s.map.records.length < 1024 → s.map.queue.length ≤ 64 →
          t.map.queue = appended s.map.queue [logged .newSuspect, logged .confirmed])) ∧
      (Table.fetch s.map.records die = none → 1024 ≤ s.map.records.length →
        (∀ e ∈ s.map.records, e.2.state ≠ .suspect) → t.map = s.map ∧ t.events.pends .mapFull = true ∧
          t.events.counter .mapFullDrops = s.events.counter .mapFullDrops + 1) ∧
      (∀ r, Table.fetch s.map.records die = some r →
        (r.state = .suspect ∨ r.state = .retest →
          (∀ d, Table.fetch t.map.records d = if d = die then
              some { r with state := .confirmed, fault := .shorted, hits := 0, passes := 0, statePass := now }
            else Table.fetch s.map.records d) ∧
          (s.map.queue.length ≤ 64 → t.map.queue =
            appended s.map.queue [logged (if r.state = .suspect then .confirmed else .reconfirmed)]) ∧
          t.events.pends .confirmed = true) ∧
        (r.state = .suspect → t.sense = s.sense) ∧
        (r.state = .retest → t.sense.long.reconfirmed = s.sense.long.reconfirmed + 1) ∧
        (r.state = .confirmed ∨ r.state = .pinnedDead → t.map = s.map ∧ t.sense = s.sense)) ∧
      t.sense.modules = s.sense.modules ∧
      (s.capture.held.getLsbD (slotOfChannel n) = true →
        t.plan.selectOf n = .off ∧ IndexSet.has t.plan.deferred n = true) ∧
      (s.capture.held = 0 → s.capture.state ≠ .armed → t.plan.selectOf n = t.derivedSelect n) ∧
      OnlyChanges (.scan :: dieBlocks) s t

/-- LIVE_SHORT_REPORT that makes no cut: outside a lit row of an ACTIVE pass or for a die that is not lit it has no effect; on a
PINNED_GOOD die it counts PINNED_SHORTS and does nothing else (R71, R74).  That a report for a die that is not present is
discarded is the model's reading (log entry 7). -/
def Obligations.LiveShortLeftAlone : Prop :=
  ∀ (s : State) (die : Nat),
    let lit := s.scan.selectOf (dieChannel die) = (if die % 2 = 1 then .b else .a)
    (s.scan.display ≠ .active ∨ s.scan.phase ≠ .pass → exec (.liveShortReport die) s = .next s) ∧
    (¬ lit → exec (.liveShortReport die) s = .next s) ∧
    (s.layout.presentDie die = false → exec (.liveShortReport die) s = .next s) ∧
    (s.scan.display = .active → s.scan.phase = .pass → s.layout.presentDie die = true → lit →
      s.recordState die = some .pinnedGood → exec (.liveShortReport die) s = .next (count .pinnedShorts s))

/-! ## Video Input Link -/

/-- LINK_BYTE in HUNT, SYNC, DISCARD and GAP: the tables of R19, R34 and R35. -/
def Obligations.LinkBytesOutsideFrames : Prop :=
  ∀ (s : State) (b : Byte),
    let sync := s.setInput { s.input with state := .sync, escape := false }
    let hunt := fun (u : State) => u.setInput { u.input with state := .hunt, firstFrame := true, escape := false }
    (s.input.state = .hunt ∨ s.input.state = .discard →
      exec (.linkByte b) s = .next (if b = 0xD1 then sync else s)) ∧
    (s.input.state = .sync →
      exec (.linkByte b) s = .next
        (if b = 0x5A then s.setInput { s.input with state := .header, header := [], escape := false }
         else if b = 0xD1 ∨ b = 0xDF then s else hunt s)) ∧
    (s.input.state = .gap →
      exec (.linkByte b) s = .next
        (if b = 0xDF then s else if b = 0xD1 then sync else hunt (count .symbolErrors s)))

/-- LINK_BYTE in HEADER: fill is discarded, ESC makes an escape pending, S1 drops the header, END and a bad escape are symbol
errors, a bad escape completed by S1 goes on to SYNC, and the fourth data byte, plain or escaped, is judged: against the
layout (R21), then for sequence and lock (R22), then by the display state (R23, R24), with a wake under the two parameters
(R17, R20).  In STANDBY the frame counts in FRAMES_IGNORED, and a break in the sequence in SEQ_GAPS, whether or not it wakes
the display.  That the bytes of an abandoned header (S1, END, a bad escape) are kept is the model's reading, not a rule's (log
entry 23): R20 names no clearing of them. -/
def Obligations.HeaderIsCollectedAndJudged : Prop :=
  ∀ (s : State) (b : Byte), s.input.state = .header →
    let hunt := fun (u : State) => u.setInput { u.input with state := .hunt, firstFrame := true, escape := false }
    let reserved := b = 0xD1 ∨ b = 0xDC ∨ b = 0xDE ∨ b = 0xDF
    let escaped := b = 0xF1 ∨ b = 0xFC ∨ b = 0xFE ∨ b = 0xFF
    exec (.linkByte 0xDF) s = .next s ∧
    (s.input.escape = false →
      exec (.linkByte 0xDC) s = .next (s.setInput { s.input with escape := true }) ∧
      exec (.linkByte 0xD1) s = .next (s.setInput { s.input with state := .sync, escape := false }) ∧
      exec (.linkByte 0xDE) s = .next (hunt (count .symbolErrors s))) ∧
    (s.input.escape = true → ¬ escaped → b ≠ 0xDF → exec (.linkByte b) s = .next
      (if b = 0xD1 then (count .symbolErrors s).setInput
          { s.input with state := .sync, firstFrame := true, escape := false }
       else hunt (count .symbolErrors s))) ∧
    ∀ d : Byte,
      (s.input.escape = false ∧ ¬ reserved ∧ d = b) ∨ (s.input.escape = true ∧ escaped ∧ d = b ^^^ 0x20) →
      let h := s.input.header ++ [d]
      let kept := { s.input with header := h, escape := false }
      (h.length ≠ 4 → exec (.linkByte b) s = .next (s.setInput kept)) ∧
      ∀ q0 q1 flags : Byte, s.input.header = [q0, q1, flags] →
        let seq := BitVec.ofNat 16 (q0.toNat + 256 * q1.toNat)
        let settled := { kept with lastSeq := seq, firstFrame := false }
        let gaps := fun (u : State) =>
          if s.input.firstFrame = false ∧ seq ≠ s.input.lastSeq + 1 then count .seqGaps u else u
        (s.layout.status = .unset → exec (.linkByte b) s =
          .next ((count .framesIgnored s).setInput { kept with state := .discard })) ∧
        (s.layout.status = .set → d.toNat % 16 ≠ s.layout.record.mc ∨ d.toNat / 16 ≠ s.layout.record.mr →
          exec (.linkByte b) s = .next ((count .framesGeometry s).setInput { kept with state := .discard })) ∧
        (s.layout.status = .set → d.toNat % 16 = s.layout.record.mc → d.toNat / 16 = s.layout.record.mr →
          (s.scan.display ≠ .standby → exec (.linkByte b) s = .next ((gaps s).setInput
            { settled with
              state := .rows, rowsDone := 0, position := .awaitingIndex
              mode := if flags.getLsbD 0 then .blank else .written })) ∧
          (s.scan.display = .standby → ∃ t, exec (.linkByte b) s = .next t ∧
            t.input = { settled with state := .discard } ∧
            ((flags.getLsbD 1 = true ∧ s.params.wakeOnFlag = true) ∨
                (s.input.firstFrame = true ∧ s.params.wakeOnLock = true) →
              t.scan.display = .waking ∧ t.scan.wakingLeft = 15 ∧ t.scan.passNumber = s.scan.passNumber + 1 ∧
              t.events.counter .framesIgnored = s.events.counter .framesIgnored + 1 ∧
              t.events.counter .seqGaps = s.events.counter .seqGaps +
                (if s.input.firstFrame = false ∧ seq ≠ s.input.lastSeq + 1 then 1 else 0)) ∧
            (¬ ((flags.getLsbD 1 = true ∧ s.params.wakeOnFlag = true) ∨
                (s.input.firstFrame = true ∧ s.params.wakeOnLock = true)) →
              t = (count .framesIgnored (gaps s)).setInput { settled with state := .discard })))

/-- LINK_BYTE in ROWS, the index and the check of a row block.  In a WRITTEN frame for a row of the grid the index withdraws what
the row had waiting, counting ROWS_SUPERSEDED, and makes it FILLING; the check makes it GOOD or BAD.  A block of a BLANK frame or
of a row outside the grid touches no row.  A block that is wrongly summed or outside the grid counts ROWS_BAD once (R25, R27 to
R29).  The byte may be carried plain or by an escape, 0xDC and the byte XOR 0x20 (R17).  `group` is the model's own item (log
entry 11). -/
def Obligations.RowBlockStartsAndEnds : Prop :=
  ∀ (s : State) (sent b : Byte), s.input.state = .rows → s.store.length = s.layout.height →
    (s.input.escape = false ∧ sent ≠ 0xD1 ∧ sent ≠ 0xDC ∧ sent ≠ 0xDE ∧ sent ≠ 0xDF ∧ b = sent) ∨
      (s.input.escape = true ∧ (sent = 0xF1 ∨ sent = 0xFC ∨ sent = 0xFE ∨ sent = 0xFF) ∧ b = sent ^^^ 0x20) →
    (s.input.position = .awaitingIndex →
      let written := s.input.mode = .written ∧ b.toNat < s.layout.height
      ∃ t, exec (.linkByte sent) s = .next t ∧
        t.input = { s.input with escape := false, blockRow := b, blockSum := b, position := .inData 0, group := [] } ∧
        (¬ written → t.store = s.store ∧ t.events = s.events) ∧
        (written → t.store = s.store.modify b.toNat (fun r => { r with incoming := .filling, pend := .none }) ∧
          ∀ r, s.store[b.toNat]? = some r →
            (r.pend ≠ .none ∨ r.incoming = .good → t.events = s.events.counted .rowsSuperseded) ∧
            (r.pend = .none → r.incoming ≠ .good → t.events = s.events)) ∧
        OnlyChanges [.input, .store, .events] s t) ∧
    (s.input.position = .awaitingCheck →
      let row := s.input.blockRow.toNat
      let good := s.input.blockSum + b = 0 ∧ row < s.layout.height
      ∃ t, exec (.linkByte sent) s = .next t ∧
        t.input = { s.input with
          escape := false, blockSum := s.input.blockSum + b, position := .awaitingIndex
          rowsDone := if s.input.rowsDone < 65535 then s.input.rowsDone + 1 else 65535 } ∧
        (good → t.events = s.events) ∧ (¬ good → t.events = s.events.counted .rowsBad) ∧
        (s.input.mode = .written → row < s.layout.height →
          (good → t.store = s.store.modify row (fun r => { r with incoming := .good })) ∧
          (¬ good → t.store = s.store.modify row (fun r => { r with incoming := .bad }))) ∧
        (s.input.mode = .blank ∨ s.layout.height ≤ row → t.store = s.store) ∧
        OnlyChanges [.input, .store, .events] s t)

/-- LINK_BYTE in ROWS, a data byte: it joins the sum and the count of bytes; the fifth byte of a group writes its four values of
ten bits, lowest first, into the slot that is not on display, and changes no other value and no other row (R25, R26).  The byte
may be carried plain or by an escape, 0xDC and the byte XOR 0x20 (R17).  `group`, the bytes of the group in progress, is the
model's own item (log entry 11). -/
def Obligations.PixelGroupsAreUnpacked : Prop :=
  ∀ (s : State) (sent b : Byte) (n : Nat), s.input.state = .rows → s.input.position = .inData n →
    (s.input.escape = false ∧ sent ≠ 0xD1 ∧ sent ≠ 0xDC ∧ sent ≠ 0xDE ∧ sent ≠ 0xDF ∧ b = sent) ∨
      (s.input.escape = true ∧ (sent = 0xF1 ∨ sent = 0xFC ∨ sent = 0xFE ∨ sent = 0xFF) ∧ b = sent ^^^ 0x20) →
    let row := s.input.blockRow.toNat
    let writes := s.input.mode = .written ∧ row < s.layout.height
    ∃ t, exec (.linkByte sent) s = .next t ∧ t.input.escape = false ∧ t.input.blockSum = s.input.blockSum + b ∧
      t.input.position = (if n + 1 = 180 * s.layout.record.mc then .awaitingCheck else .inData (n + 1)) ∧
      (s.input.group.length ≠ 4 → t.input.group = s.input.group ++ [b] ∧ t.store = s.store) ∧
      (¬ writes → t.store = s.store) ∧
      (∀ b0 b1 b2 b3 : Byte, s.input.group = [b0, b1, b2, b3] → t.input.group = [] ∧
        (writes → ∀ r, s.store[row]? = some r → ∃ r', t.store[row]? = some r' ∧
          r'.display = r.display ∧ r'.incoming = r.incoming ∧ r'.pend = r.pend ∧ r'.held = r.held ∧
          r'.blanked = r.blanked ∧ (if r.display = 0 then r'.slot0 = r.slot0 else r'.slot1 = r.slot1) ∧
          ∀ k, Table.value 0 (if r.display = 0 then r'.slot1 else r'.slot0) k =
            if k / 4 = n / 5 then
              (b0.toNat + 256 * b1.toNat + 65536 * b2.toNat + 16777216 * b3.toNat + 4294967296 * b.toNat) /
                1024 ^ (k % 4) % 1024
            else Table.value 0 (if r.display = 0 then r.slot1 else r.slot0) k) ∧
        ∀ y, y ≠ row → t.store[y]? = s.store[y]?) ∧
      t.events = s.events ∧ OnlyChanges [.input, .store] s t

/-- LINK_BYTE in ROWS, the symbols: fill is discarded, also inside an escape, ESC makes an escape pending, END at a block
boundary closes the frame, S1 cuts it, END inside a block and a bad escape are symbol errors that cut it; an escape that
carries a data byte is taken as that byte (`RowBlockStartsAndEnds`, `PixelGroupsAreUnpacked`).  At a close or cut every GOOD
row of a WRITTEN frame takes the mark content, a BAD or FILLING one none, and every row of a BLANK frame takes black; a
FILLING row found by a cut counts in ROWS_BAD (R17, R25, R29 to R31).  That the receiver's other items keep their values at a
close or cut is the model's reading (log entry 23). -/
def Obligations.FrameClosesOrIsCut : Prop :=
  ∀ (s : State) (b : Byte), s.input.state = .rows →
    let closed := fun (r : Row) => match s.input.mode, r.incoming with
      | .blank, _ => { r with pend := .black }
      | .written, .good => { r with pend := .content, incoming := .none }
      | .written, .bad => { r with pend := .none, incoming := .none }
      | .written, .filling => { r with pend := .none, incoming := .none }
      | .written, .none => r
    let filling := if s.input.mode = .written then (s.store.filter fun r => decide (r.incoming = .filling)).length else 0
    let cut := fun (u : State) => count .framesCut (countTimes .rowsBad filling (u.setStore (s.store.map closed)))
    let hunt := fun (u : State) => u.setInput { s.input with state := .hunt, firstFrame := true, escape := false }
    exec (.linkByte 0xDF) s = .next s ∧
    (s.input.escape = false → exec (.linkByte 0xDC) s = .next (s.setInput { s.input with escape := true })) ∧
    (s.input.escape = false → s.input.position = .awaitingIndex → exec (.linkByte 0xDE) s = .next
      ((count .framesClosed (s.setStore (s.store.map closed))).setInput { s.input with state := .gap, escape := false })) ∧
    (s.input.escape = false → s.input.position ≠ .awaitingIndex →
      exec (.linkByte 0xDE) s = .next (hunt (cut (count .symbolErrors s)))) ∧
    (s.input.escape = false → exec (.linkByte 0xD1) s = .next
      ((cut s).setInput { s.input with state := .sync, escape := false })) ∧
    (s.input.escape = true → b ≠ 0xDF → b ≠ 0xF1 → b ≠ 0xFC → b ≠ 0xFE → b ≠ 0xFF → b ≠ 0xD1 →
      exec (.linkByte b) s = .next (hunt (cut (count .symbolErrors s)))) ∧
    (s.input.escape = true → exec (.linkByte 0xD1) s = .next ((cut (count .symbolErrors s)).setInput
      { s.input with state := .sync, firstFrame := true, escape := false }))

/-- LOSS_OF_SIGNAL: in HUNT it changes nothing; elsewhere INPUT_LOST is raised, a frame in reception is cut, and the receiver goes
to HUNT with the first-frame mark set and no escape pending (R32).  That its other items keep their values is the model's
reading (log entry 23). -/
def Obligations.LossOfSignalHunts : Prop :=
  ∀ s : State,
    let closed := fun (r : Row) => match s.input.mode, r.incoming with
      | .blank, _ => { r with pend := .black }
      | .written, .good => { r with pend := .content, incoming := .none }
      | .written, .bad => { r with pend := .none, incoming := .none }
      | .written, .filling => { r with pend := .none, incoming := .none }
      | .written, .none => r
    let filling := if s.input.mode = .written then (s.store.filter fun r => decide (r.incoming = .filling)).length else 0
    let hunt := { s.input with state := .hunt, firstFrame := true, escape := false }
    (s.input.state = .hunt → exec .lossOfSignal s = .next s) ∧
    (s.input.state ≠ .hunt → s.input.state ≠ .rows →
      exec .lossOfSignal s = .next ((raise .inputLost s).setInput hunt)) ∧
    (s.input.state = .rows → exec .lossOfSignal s = .next
      ((count .framesCut (countTimes .rowsBad filling
        ((raise .inputLost s).setStore (s.store.map closed)))).setInput hunt))

/-! ## Event Unit -/

/-- The event fields number the events as R193 does.  READ_EVENTS reports the bits and the mask as read and clears the events
of the clear mask, all of them for an empty payload; SET_MASK replaces the mask and changes no bit; the attention line follows
each at once (R193, R195 to R197). -/
def Obligations.EventsAreReadAndMasked : Prop :=
  [.confirmed, .restored, .longDone, .transitions, .woken, .lost, .uncovered, .mapFull, .boostFull, .moduleDark, .moduleHot,
    .staleRow, .inputLost, .captureFired, .queueOverflow].map Event.bit = [0, 1, 2, 3, 4, 5, 6, 7, 8, 9, 10, 11, 12, 13, 14] ∧
  ∀ (s : State) (m : Message) (rest : List Message) (p : List Byte), Handing s m rest → m.payload = p →
    let u := s.events
    let set := fun (lo hi : Byte) => BitVec.ofNat 15 (lo.toNat + 256 * hi.toNat)
    let line := fun (bits mask : BitVec 15) => decide (bits &&& ~~~mask ≠ 0)
    (∀ clear : BitVec 15, m.kind = 0x38 →
      (p = [] ∧ clear = BitVec.allOnes 15) ∨ (∃ lo hi, p = [lo, hi] ∧ clear = set lo hi) →
      let bits := u.bits &&& ~~~clear
      ∃ t, exec .readEvents s = .next t ∧ t.events = { u with bits := bits, attention := line bits u.mask } ∧
        Answered s t m rest ([0] ++ bytesOf 2 u.bits.toNat ++ bytesOf 2 u.mask.toNat ++
          [byteOf ((if u.bits &&& 0x001F#15 ≠ 0 then 1 else 0) + (if u.bits &&& 0x7FE0#15 ≠ 0 then 2 else 0) +
            (if line bits u.mask then 4 else 0))]) ∧
        OnlyChanges [.events, .control] s t) ∧
    (∀ lo hi : Byte, m.kind = 0x39 → p = [lo, hi] →
      ∃ t, exec .setMask s = .next t ∧
        t.events = { u with mask := set lo hi, attention := line u.bits (set lo hi) } ∧
        Answered s t m rest ([0] ++ bytesOf 2 (set lo hi).toNat ++ [flagByte (line u.bits (set lo hi))]) ∧
        OnlyChanges [.events, .control] s t)

/-- The counters have the codes of R198.  A counted occurrence raises its counter by 1, one at 65535 goes to 0 and sets its
overflow flag, no other counter or flag changes and a set flag stays set (R199); READ_COUNTERS reports the 23 counters and
flags in code order and, for a byte of 1, clears them all; any other byte is refused with BAD_ARG (R200). -/
def Obligations.CountersWrapAndAreRead : Prop :=
  [.framesClosed, .framesCut, .framesGeometry, .framesIgnored, .rowsBad, .rowsSuperseded, .seqGaps, .symbolErrors, .rowsBlanked,
    .clipPasses, .tests, .patrolCycles, .hotDiscards, .transients, .confirmations, .evictions, .mapFullDrops, .boostDrops,
    .pinnedShorts, .transitionOverflow, .captureOverwrites, .ctlBadFrame, .ctlOverrun].map Counter.code =
    [0, 1, 2, 3, 4, 5, 6, 7, 8, 9, 10, 11, 12, 13, 14, 15, 16, 17, 18, 19, 20, 21, 22] ∧
  (∀ (s : State) (c : Counter),
    (count c s).events.counter c = s.events.counter c + 1 ∧
    (count c s).events.overflowed c = (s.events.overflowed c || decide (s.events.counter c = 65535)) ∧
    (∀ d, d ≠ c → (count c s).events.counter d = s.events.counter d ∧
      (count c s).events.overflowed d = s.events.overflowed d) ∧
    (count c s).events.bits = s.events.bits ∧ (count c s).events.mask = s.events.mask ∧
    (count c s).events.attention = s.events.attention) ∧
  ∀ (s : State) (m : Message) (rest : List Message) (b : Byte), Handing s m rest → m.kind = 0x3A → m.payload = [b] →
    let report := [0] ++ s.events.counters.toList.flatMap (fun c => bytesOf 2 c.toNat) ++ bytesOf 3 s.events.overflow.toNat
    (b = 0 → ∃ t, exec .readCounters s = .next t ∧ Answered s t m rest report ∧ OnlyChanges [.control] s t) ∧
    (b = 1 → ∃ t, exec .readCounters s = .next t ∧ Answered s t m rest report ∧
      t.events = { s.events with counters := Vector.replicate 23 0, overflow := 0 } ∧
      OnlyChanges [.events, .control] s t) ∧
    (b ≠ 0 → b ≠ 1 → Refused .readCounters s m rest 3)

/-! ## What every step keeps -/

/-- The attention line is asserted exactly while some set event bit is unmasked, after every step (R195). -/
def Obligations.AttentionFollowsEveryStep : Prop :=
  ∀ s t : State, AttentionFollows s → step s = .next t → AttentionFollows t

/-- Every table keeps its canonical form, no queue, buffer or table outgrows its capacity, the live Boost Table among them, a
message is in hand exactly while a STANDBY is owed its reply, and the display, its phase and the gap list agree, after every
step (R59, R104, R127, R133, R174, R177, R178, R63, R55, R56).  The canonical form is the model's choice (log entry 8). -/
def Obligations.TablesStayInOrder : Prop :=
  ∀ s t : State, TablesCanonical s → WithinCapacity s → HandConsistent s → DisplayConsistent s → step s = .next t →
    TablesCanonical t ∧ WithinCapacity t ∧ HandConsistent t ∧ DisplayConsistent t ∧
      (LiveFollowsPlan s → LiveWithinCapacity s → LiveWithinCapacity t)

/-- After every step the live tables differ from the Pending Plan only where an edited mark stands (R58), and no channel whose
select is OFF holds an entry, in either copy (R59, R133). -/
def Obligations.LiveTablesFollowThePlan : Prop :=
  ∀ s t : State, LiveFollowsPlan s → OffHoldsNoEntry s → step s = .next t → LiveFollowsPlan t ∧ OffHoldsNoEntry t

/-- Each boost's share lies in 1 to 256, and the shares aimed at any one channel never exceed 256, in either copy, after every
step (R59, R133). -/
def Obligations.SharesStayBounded : Prop :=
  ∀ s t : State, ParamsInRange s → LiveFollowsPlan s → SharesBounded s → step s = .next t →
    ParamsInRange t ∧ SharesBounded t

/-- In every record hits ≤ passes ≤ 15, and both are 0 outside SUSPECT and RETEST, after every step (R106, R110). -/
def Obligations.RecordCountsStaySound : Prop :=
  ∀ s t : State, ParamsInRange s → RecordCountsSound s → step s = .next t → RecordCountsSound t

/-- Every field of the layout record keeps its range (mc, mr, each slot's trim, the pass rate), no slot outside the grid is FITTED
and a VACANT one is held at DUAL and 256, the Row Store has one entry for each grid row, and a slot is VACANT to the Sense Unit
exactly while it is not FITTED, after every step (R5, R8, R10, R11, R38, R78, R86). -/
def Obligations.LayoutAndModulesStaySound : Prop :=
  ∀ s t : State, LayoutSound s → ModulesSound s → step s = .next t → LayoutSound t ∧ ModulesSound t

/-- Every record is for a present die, the gap list holds at most 8 tests of present dies, no die twice, and each chain port has
been sent the requests of its slot's dies, after every step (R104, R78, R79, R80).  That the requests stand with the gap list is
the model's choice (log entry 29). -/
def Obligations.RecordsAndTestsNamePresentDies : Prop :=
  ∀ s t : State, ParamsInRange s → DisplayConsistent s → Table.canonical s.map.records = true → RecordsPresent s →
    GapSound s → step s = .next t → RecordsPresent t ∧ GapSound t
end

