-- ==== Sys2Proof/Laws/State.lean ====
section
/-! SUPPORT. What each block-replacing update leaves in each field: true by `rfl`, for `simp`. -/

namespace Sys2Proof.Machine

section setPending

variable (s : State) (x : List Instr)

@[simp] theorem State.setPending_pending : (s.setPending x).pending = x := rfl
@[simp] theorem State.setPending_layout : (s.setPending x).layout = s.layout := rfl
@[simp] theorem State.setPending_input : (s.setPending x).input = s.input := rfl
@[simp] theorem State.setPending_store : (s.setPending x).store = s.store := rfl
@[simp] theorem State.setPending_scan : (s.setPending x).scan = s.scan := rfl
@[simp] theorem State.setPending_sense : (s.setPending x).sense = s.sense := rfl
@[simp] theorem State.setPending_map : (s.setPending x).map = s.map := rfl
@[simp] theorem State.setPending_plan : (s.setPending x).plan = s.plan := rfl
@[simp] theorem State.setPending_capture : (s.setPending x).capture = s.capture := rfl
@[simp] theorem State.setPending_control : (s.setPending x).control = s.control := rfl
@[simp] theorem State.setPending_params : (s.setPending x).params = s.params := rfl
@[simp] theorem State.setPending_events : (s.setPending x).events = s.events := rfl

/-- Replacing the block twice keeps the second value. -/
@[simp] theorem State.setPending_setPending (y : List Instr) : (s.setPending x).setPending y = s.setPending y := rfl

end setPending

section setLayout

variable (s : State) (x : Layout)

@[simp] theorem State.setLayout_pending : (s.setLayout x).pending = s.pending := rfl
@[simp] theorem State.setLayout_layout : (s.setLayout x).layout = x := rfl
@[simp] theorem State.setLayout_input : (s.setLayout x).input = s.input := rfl
@[simp] theorem State.setLayout_store : (s.setLayout x).store = s.store := rfl
@[simp] theorem State.setLayout_scan : (s.setLayout x).scan = s.scan := rfl
@[simp] theorem State.setLayout_sense : (s.setLayout x).sense = s.sense := rfl
@[simp] theorem State.setLayout_map : (s.setLayout x).map = s.map := rfl
@[simp] theorem State.setLayout_plan : (s.setLayout x).plan = s.plan := rfl
@[simp] theorem State.setLayout_capture : (s.setLayout x).capture = s.capture := rfl
@[simp] theorem State.setLayout_control : (s.setLayout x).control = s.control := rfl
@[simp] theorem State.setLayout_params : (s.setLayout x).params = s.params := rfl
@[simp] theorem State.setLayout_events : (s.setLayout x).events = s.events := rfl

/-- Replacing the block twice keeps the second value. -/
@[simp] theorem State.setLayout_setLayout (y : Layout) : (s.setLayout x).setLayout y = s.setLayout y := rfl

end setLayout

section setInput

variable (s : State) (x : Receiver)

@[simp] theorem State.setInput_pending : (s.setInput x).pending = s.pending := rfl
@[simp] theorem State.setInput_layout : (s.setInput x).layout = s.layout := rfl
@[simp] theorem State.setInput_input : (s.setInput x).input = x := rfl
@[simp] theorem State.setInput_store : (s.setInput x).store = s.store := rfl
@[simp] theorem State.setInput_scan : (s.setInput x).scan = s.scan := rfl
@[simp] theorem State.setInput_sense : (s.setInput x).sense = s.sense := rfl
@[simp] theorem State.setInput_map : (s.setInput x).map = s.map := rfl
@[simp] theorem State.setInput_plan : (s.setInput x).plan = s.plan := rfl
@[simp] theorem State.setInput_capture : (s.setInput x).capture = s.capture := rfl
@[simp] theorem State.setInput_control : (s.setInput x).control = s.control := rfl
@[simp] theorem State.setInput_params : (s.setInput x).params = s.params := rfl
@[simp] theorem State.setInput_events : (s.setInput x).events = s.events := rfl

/-- Replacing the block twice keeps the second value. -/
@[simp] theorem State.setInput_setInput (y : Receiver) : (s.setInput x).setInput y = s.setInput y := rfl

end setInput

section setStore

variable (s : State) (x : List Row)

@[simp] theorem State.setStore_pending : (s.setStore x).pending = s.pending := rfl
@[simp] theorem State.setStore_layout : (s.setStore x).layout = s.layout := rfl
@[simp] theorem State.setStore_input : (s.setStore x).input = s.input := rfl
@[simp] theorem State.setStore_store : (s.setStore x).store = x := rfl
@[simp] theorem State.setStore_scan : (s.setStore x).scan = s.scan := rfl
@[simp] theorem State.setStore_sense : (s.setStore x).sense = s.sense := rfl
@[simp] theorem State.setStore_map : (s.setStore x).map = s.map := rfl
@[simp] theorem State.setStore_plan : (s.setStore x).plan = s.plan := rfl
@[simp] theorem State.setStore_capture : (s.setStore x).capture = s.capture := rfl
@[simp] theorem State.setStore_control : (s.setStore x).control = s.control := rfl
@[simp] theorem State.setStore_params : (s.setStore x).params = s.params := rfl
@[simp] theorem State.setStore_events : (s.setStore x).events = s.events := rfl

/-- Replacing the block twice keeps the second value. -/
@[simp] theorem State.setStore_setStore (y : List Row) : (s.setStore x).setStore y = s.setStore y := rfl

end setStore

section setScan

variable (s : State) (x : Scan)

@[simp] theorem State.setScan_pending : (s.setScan x).pending = s.pending := rfl
@[simp] theorem State.setScan_layout : (s.setScan x).layout = s.layout := rfl
@[simp] theorem State.setScan_input : (s.setScan x).input = s.input := rfl
@[simp] theorem State.setScan_store : (s.setScan x).store = s.store := rfl
@[simp] theorem State.setScan_scan : (s.setScan x).scan = x := rfl
@[simp] theorem State.setScan_sense : (s.setScan x).sense = s.sense := rfl
@[simp] theorem State.setScan_map : (s.setScan x).map = s.map := rfl
@[simp] theorem State.setScan_plan : (s.setScan x).plan = s.plan := rfl
@[simp] theorem State.setScan_capture : (s.setScan x).capture = s.capture := rfl
@[simp] theorem State.setScan_control : (s.setScan x).control = s.control := rfl
@[simp] theorem State.setScan_params : (s.setScan x).params = s.params := rfl
@[simp] theorem State.setScan_events : (s.setScan x).events = s.events := rfl

/-- Replacing the block twice keeps the second value. -/
@[simp] theorem State.setScan_setScan (y : Scan) : (s.setScan x).setScan y = s.setScan y := rfl

end setScan

section setSense

variable (s : State) (x : Sense)

@[simp] theorem State.setSense_pending : (s.setSense x).pending = s.pending := rfl
@[simp] theorem State.setSense_layout : (s.setSense x).layout = s.layout := rfl
@[simp] theorem State.setSense_input : (s.setSense x).input = s.input := rfl
@[simp] theorem State.setSense_store : (s.setSense x).store = s.store := rfl
@[simp] theorem State.setSense_scan : (s.setSense x).scan = s.scan := rfl
@[simp] theorem State.setSense_sense : (s.setSense x).sense = x := rfl
@[simp] theorem State.setSense_map : (s.setSense x).map = s.map := rfl
@[simp] theorem State.setSense_plan : (s.setSense x).plan = s.plan := rfl
@[simp] theorem State.setSense_capture : (s.setSense x).capture = s.capture := rfl
@[simp] theorem State.setSense_control : (s.setSense x).control = s.control := rfl
@[simp] theorem State.setSense_params : (s.setSense x).params = s.params := rfl
@[simp] theorem State.setSense_events : (s.setSense x).events = s.events := rfl

/-- Replacing the block twice keeps the second value. -/
@[simp] theorem State.setSense_setSense (y : Sense) : (s.setSense x).setSense y = s.setSense y := rfl

end setSense

section setMap

variable (s : State) (x : DefectMap)

@[simp] theorem State.setMap_pending : (s.setMap x).pending = s.pending := rfl
@[simp] theorem State.setMap_layout : (s.setMap x).layout = s.layout := rfl
@[simp] theorem State.setMap_input : (s.setMap x).input = s.input := rfl
@[simp] theorem State.setMap_store : (s.setMap x).store = s.store := rfl
@[simp] theorem State.setMap_scan : (s.setMap x).scan = s.scan := rfl
@[simp] theorem State.setMap_sense : (s.setMap x).sense = s.sense := rfl
@[simp] theorem State.setMap_map : (s.setMap x).map = x := rfl
@[simp] theorem State.setMap_plan : (s.setMap x).plan = s.plan := rfl
@[simp] theorem State.setMap_capture : (s.setMap x).capture = s.capture := rfl
@[simp] theorem State.setMap_control : (s.setMap x).control = s.control := rfl
@[simp] theorem State.setMap_params : (s.setMap x).params = s.params := rfl
@[simp] theorem State.setMap_events : (s.setMap x).events = s.events := rfl

/-- Replacing the block twice keeps the second value. -/
@[simp] theorem State.setMap_setMap (y : DefectMap) : (s.setMap x).setMap y = s.setMap y := rfl

end setMap

section setPlan

variable (s : State) (x : Plan)

@[simp] theorem State.setPlan_pending : (s.setPlan x).pending = s.pending := rfl
@[simp] theorem State.setPlan_layout : (s.setPlan x).layout = s.layout := rfl
@[simp] theorem State.setPlan_input : (s.setPlan x).input = s.input := rfl
@[simp] theorem State.setPlan_store : (s.setPlan x).store = s.store := rfl
@[simp] theorem State.setPlan_scan : (s.setPlan x).scan = s.scan := rfl
@[simp] theorem State.setPlan_sense : (s.setPlan x).sense = s.sense := rfl
@[simp] theorem State.setPlan_map : (s.setPlan x).map = s.map := rfl
@[simp] theorem State.setPlan_plan : (s.setPlan x).plan = x := rfl
@[simp] theorem State.setPlan_capture : (s.setPlan x).capture = s.capture := rfl
@[simp] theorem State.setPlan_control : (s.setPlan x).control = s.control := rfl
@[simp] theorem State.setPlan_params : (s.setPlan x).params = s.params := rfl
@[simp] theorem State.setPlan_events : (s.setPlan x).events = s.events := rfl

/-- Replacing the block twice keeps the second value. -/
@[simp] theorem State.setPlan_setPlan (y : Plan) : (s.setPlan x).setPlan y = s.setPlan y := rfl

end setPlan

section setCapture

variable (s : State) (x : Capture)

@[simp] theorem State.setCapture_pending : (s.setCapture x).pending = s.pending := rfl
@[simp] theorem State.setCapture_layout : (s.setCapture x).layout = s.layout := rfl
@[simp] theorem State.setCapture_input : (s.setCapture x).input = s.input := rfl
@[simp] theorem State.setCapture_store : (s.setCapture x).store = s.store := rfl
@[simp] theorem State.setCapture_scan : (s.setCapture x).scan = s.scan := rfl
@[simp] theorem State.setCapture_sense : (s.setCapture x).sense = s.sense := rfl
@[simp] theorem State.setCapture_map : (s.setCapture x).map = s.map := rfl
@[simp] theorem State.setCapture_plan : (s.setCapture x).plan = s.plan := rfl
@[simp] theorem State.setCapture_capture : (s.setCapture x).capture = x := rfl
@[simp] theorem State.setCapture_control : (s.setCapture x).control = s.control := rfl
@[simp] theorem State.setCapture_params : (s.setCapture x).params = s.params := rfl
@[simp] theorem State.setCapture_events : (s.setCapture x).events = s.events := rfl

/-- Replacing the block twice keeps the second value. -/
@[simp] theorem State.setCapture_setCapture (y : Capture) : (s.setCapture x).setCapture y = s.setCapture y := rfl

end setCapture

section setControl

variable (s : State) (x : ControlPort)

@[simp] theorem State.setControl_pending : (s.setControl x).pending = s.pending := rfl
@[simp] theorem State.setControl_layout : (s.setControl x).layout = s.layout := rfl
@[simp] theorem State.setControl_input : (s.setControl x).input = s.input := rfl
@[simp] theorem State.setControl_store : (s.setControl x).store = s.store := rfl
@[simp] theorem State.setControl_scan : (s.setControl x).scan = s.scan := rfl
@[simp] theorem State.setControl_sense : (s.setControl x).sense = s.sense := rfl
@[simp] theorem State.setControl_map : (s.setControl x).map = s.map := rfl
@[simp] theorem State.setControl_plan : (s.setControl x).plan = s.plan := rfl
@[simp] theorem State.setControl_capture : (s.setControl x).capture = s.capture := rfl
@[simp] theorem State.setControl_control : (s.setControl x).control = x := rfl
@[simp] theorem State.setControl_params : (s.setControl x).params = s.params := rfl
@[simp] theorem State.setControl_events : (s.setControl x).events = s.events := rfl

/-- Replacing the block twice keeps the second value. -/
@[simp] theorem State.setControl_setControl (y : ControlPort) : (s.setControl x).setControl y = s.setControl y := rfl

end setControl

section setParams

variable (s : State) (x : Params)

@[simp] theorem State.setParams_pending : (s.setParams x).pending = s.pending := rfl
@[simp] theorem State.setParams_layout : (s.setParams x).layout = s.layout := rfl
@[simp] theorem State.setParams_input : (s.setParams x).input = s.input := rfl
@[simp] theorem State.setParams_store : (s.setParams x).store = s.store := rfl
@[simp] theorem State.setParams_scan : (s.setParams x).scan = s.scan := rfl
@[simp] theorem State.setParams_sense : (s.setParams x).sense = s.sense := rfl
@[simp] theorem State.setParams_map : (s.setParams x).map = s.map := rfl
@[simp] theorem State.setParams_plan : (s.setParams x).plan = s.plan := rfl
@[simp] theorem State.setParams_capture : (s.setParams x).capture = s.capture := rfl
@[simp] theorem State.setParams_control : (s.setParams x).control = s.control := rfl
@[simp] theorem State.setParams_params : (s.setParams x).params = x := rfl
@[simp] theorem State.setParams_events : (s.setParams x).events = s.events := rfl

/-- Replacing the block twice keeps the second value. -/
@[simp] theorem State.setParams_setParams (y : Params) : (s.setParams x).setParams y = s.setParams y := rfl

end setParams

section setEvents

variable (s : State) (x : EventUnit)

@[simp] theorem State.setEvents_pending : (s.setEvents x).pending = s.pending := rfl
@[simp] theorem State.setEvents_layout : (s.setEvents x).layout = s.layout := rfl
@[simp] theorem State.setEvents_input : (s.setEvents x).input = s.input := rfl
@[simp] theorem State.setEvents_store : (s.setEvents x).store = s.store := rfl
@[simp] theorem State.setEvents_scan : (s.setEvents x).scan = s.scan := rfl
@[simp] theorem State.setEvents_sense : (s.setEvents x).sense = s.sense := rfl
@[simp] theorem State.setEvents_map : (s.setEvents x).map = s.map := rfl
@[simp] theorem State.setEvents_plan : (s.setEvents x).plan = s.plan := rfl
@[simp] theorem State.setEvents_capture : (s.setEvents x).capture = s.capture := rfl
@[simp] theorem State.setEvents_control : (s.setEvents x).control = s.control := rfl
@[simp] theorem State.setEvents_params : (s.setEvents x).params = s.params := rfl
@[simp] theorem State.setEvents_events : (s.setEvents x).events = x := rfl

/-- Replacing the block twice keeps the second value. -/
@[simp] theorem State.setEvents_setEvents (y : EventUnit) : (s.setEvents x).setEvents y = s.setEvents y := rfl

end setEvents

end Sys2Proof.Machine
end

