-- ==== Sys2Proof/Laws/Tables.lean ====
section
/-! SUPPORT. What reading a sparse table gives after it is written, and that every write keeps the canonical form. -/

namespace Sys2Proof.Machine

variable {α : Type}

/-! ## Reading after writing -/

@[simp] theorem Table.fetch_nil (k : Nat) : Table.fetch ([] : Table α) k = none := rfl

@[simp] theorem Table.fetch_store_same (t : Table α) (k : Nat) (v : α) : Table.fetch (Table.store t k v) k = some v := by
  induction t with
  | nil => simp [Table.store, Table.fetch]
  | cons e t ih =>
    obtain ⟨k', v'⟩ := e
    by_cases h1 : k < k'
    · simp [Table.store, Table.fetch, h1]
    · by_cases h2 : k = k'
      · simp [Table.store, Table.fetch, h2]
      · simp [Table.store, Table.fetch, h1, h2, ih]

theorem Table.fetch_store_other (t : Table α) {k j : Nat} (v : α) (h : j ≠ k) :
    Table.fetch (Table.store t k v) j = Table.fetch t j := by
  induction t with
  | nil => simp [Table.store, Table.fetch, h]
  | cons e t ih =>
    obtain ⟨k', v'⟩ := e
    by_cases h1 : k < k'
    · simp [Table.store, Table.fetch, h1, h]
    · by_cases h2 : k = k'
      · subst h2; simp [Table.store, Table.fetch, h]
      · simp only [Table.store, h1, h2, if_false, Table.fetch, ih]

@[simp] theorem Table.fetch_discard_same (t : Table α) (k : Nat) : Table.fetch (Table.discard t k) k = none := by
  induction t with
  | nil => rfl
  | cons e t ih =>
    obtain ⟨k', v'⟩ := e
    by_cases h : k' = k
    · subst h; simpa [Table.discard] using ih
    · simp only [Table.discard] at ih ⊢
      simp [Table.fetch, h, Ne.symm h, ih]

theorem Table.fetch_discard_other (t : Table α) {k j : Nat} (h : j ≠ k) :
    Table.fetch (Table.discard t k) j = Table.fetch t j := by
  induction t with
  | nil => rfl
  | cons e t ih =>
    obtain ⟨k', v'⟩ := e
    simp only [Table.discard] at ih ⊢
    by_cases h1 : k' = k
    · subst h1; simp [Table.fetch, h, ih]
    · simp [Table.fetch, h1, ih]

/-- Reading after an assignment. -/
theorem Table.fetch_assign (t : Table α) (k j : Nat) (v : Option α) :
    Table.fetch (Table.assign t k v) j = if j = k then v else Table.fetch t j := by
  cases v with
  | none =>
    by_cases h : j = k
    · subst h; simp [Table.assign]
    · simp [Table.assign, h, Table.fetch_discard_other]
  | some v =>
    by_cases h : j = k
    · subst h; simp [Table.assign]
    · simp [Table.assign, h, Table.fetch_store_other]

/-- Reading a value held with a default. -/
theorem Table.value_hold [DecidableEq α] (d : α) (t : Table α) (k j : Nat) (v : α) :
    Table.value d (Table.hold d t k v) j = if j = k then v else Table.value d t j := by
  unfold Table.value Table.hold
  by_cases hv : v = d
  · by_cases h : j = k
    · subst h; simp [hv]
    · simp [hv, h, Table.fetch_discard_other]
  · by_cases h : j = k
    · subst h; simp [hv]
    · simp [hv, h, Table.fetch_store_other]

@[simp] theorem Table.value_nil (d : α) (k : Nat) : Table.value d [] k = d := rfl

/-- A key is listed exactly when reading it gives an entry. -/
theorem Table.mem_keys (t : Table α) (k : Nat) : k ∈ Table.keys t ↔ (Table.fetch t k).isSome := by
  induction t with
  | nil => simp [Table.keys]
  | cons e t ih =>
    obtain ⟨k', v'⟩ := e
    by_cases h : k = k'
    · subst h; simp [Table.keys, Table.fetch]
    · simp only [Table.keys, List.map_cons, List.mem_cons] at ih ⊢
      simp [Table.fetch, h, ih]

/-! ## Canonical form -/

theorem Table.canonical_iff (t : Table α) : Table.canonical t = true ↔ t.Pairwise (fun a b => a.1 < b.1) := by
  simp [Table.canonical]

@[simp] theorem Table.canonical_nil : Table.canonical ([] : Table α) = true := rfl

/-- The keys of a stored table are the stored key and keys that were there. -/
theorem Table.key_of_mem_store {t : Table α} {k : Nat} {v : α} {e : Nat × α} (h : e ∈ Table.store t k v) :
    e.1 = k ∨ e ∈ t := by
  induction t with
  | nil => simp [Table.store] at h; simp [h]
  | cons f t ih =>
    obtain ⟨k', v'⟩ := f
    by_cases h1 : k < k'
    · simp [Table.store, h1] at h
      rcases h with h | h | h <;> simp [h]
    · by_cases h2 : k = k'
      · simp [Table.store, h2] at h
        rcases h with h | h <;> simp [h, h2]
      · simp [Table.store, h1, h2] at h
        rcases h with h | h
        · simp [h]
        · rcases ih h with h | h <;> simp [h]

theorem Table.canonical_store {t : Table α} (k : Nat) (v : α) (h : Table.canonical t = true) :
    Table.canonical (Table.store t k v) = true := by
  rw [Table.canonical_iff] at h ⊢
  induction t with
  | nil => simp [Table.store]
  | cons f t ih =>
    obtain ⟨k', v'⟩ := f
    rw [List.pairwise_cons] at h
    obtain ⟨hf, ht⟩ := h
    by_cases h1 : k < k'
    · simp only [Table.store, h1, if_true, List.pairwise_cons]
      refine ⟨?_, hf, ht⟩
      intro e he
      rcases List.mem_cons.1 he with he | he
      · subst he; exact h1
      · exact Nat.lt_trans h1 (hf e he)
    · by_cases h2 : k = k'
      · subst h2; simp only [Table.store, Nat.lt_irrefl, if_false, if_true, List.pairwise_cons]
        exact ⟨hf, ht⟩
      · simp only [Table.store, h1, h2, if_false, List.pairwise_cons]
        refine ⟨?_, ih ht⟩
        intro e he
        rcases Table.key_of_mem_store he with he | he
        · simp only [he]; omega
        · exact hf e he

theorem Table.canonical_filter {t : Table α} (p : Nat × α → Bool) (h : Table.canonical t = true) :
    Table.canonical (t.filter p) = true := by
  rw [Table.canonical_iff] at h ⊢
  exact h.filter p

theorem Table.canonical_discard {t : Table α} (k : Nat) (h : Table.canonical t = true) :
    Table.canonical (Table.discard t k) = true := Table.canonical_filter _ h

theorem Table.canonical_assign {t : Table α} (k : Nat) (v : Option α) (h : Table.canonical t = true) :
    Table.canonical (Table.assign t k v) = true := by
  cases v with
  | none => exact Table.canonical_discard k h
  | some v => exact Table.canonical_store k v h

theorem Table.canonical_hold [DecidableEq α] {d : α} {t : Table α} (k : Nat) (v : α) (h : Table.canonical t = true) :
    Table.canonical (Table.hold d t k v) = true := by
  unfold Table.hold
  split
  · exact Table.canonical_discard k h
  · exact Table.canonical_store k v h

theorem IndexSet.canonical_addAll {t : IndexSet} (ks : List Nat) (h : Table.canonical t = true) :
    Table.canonical (IndexSet.addAll t ks) = true := by
  induction ks generalizing t with
  | nil => exact h
  | cons k ks ih => exact ih (Table.canonical_store k () h)

/-! ## Sizes -/

theorem Table.length_store_le (t : Table α) (k : Nat) (v : α) : (Table.store t k v).length ≤ t.length + 1 := by
  induction t with
  | nil => simp [Table.store]
  | cons f t ih =>
    obtain ⟨k', v'⟩ := f
    simp only [Table.store]
    split
    · simp
    · split
      · simp
      · simpa using ih

/-- Storing under a key that is listed keeps the size. -/
theorem Table.length_store_of_some {t : Table α} {k : Nat} {w : α} (v : α) (h : Table.fetch t k = some w)
    (hc : Table.canonical t = true) : (Table.store t k v).length = t.length := by
  rw [Table.canonical_iff] at hc
  induction t with
  | nil => simp at h
  | cons f t ih =>
    obtain ⟨k', v'⟩ := f
    rw [List.pairwise_cons] at hc
    by_cases h2 : k = k'
    · subst h2; simp [Table.store]
    · have h' : Table.fetch t k = some w := by simpa [Table.fetch, h2] using h
      have hk : k ∈ Table.keys t := (Table.mem_keys t k).2 (by simp [h'])
      obtain ⟨e, he, rfl⟩ := List.mem_map.1 hk
      have hlt : k' < e.1 := hc.1 e he
      have h1 : ¬ e.1 < k' := by omega
      simp only [Table.store, h1, h2, if_false, List.length_cons, ih h' hc.2]

theorem Table.length_discard_le (t : Table α) (k : Nat) : (Table.discard t k).length ≤ t.length :=
  List.length_filter_le _ _

/-! ## Index sets -/

@[simp] theorem IndexSet.has_nil (k : Nat) : IndexSet.has [] k = false := rfl

theorem IndexSet.has_add (t : IndexSet) (k j : Nat) :
    IndexSet.has (IndexSet.add t k) j = (decide (j = k) || IndexSet.has t j) := by
  unfold IndexSet.has IndexSet.add
  by_cases h : j = k
  · subst h; simp
  · simp [h, Table.fetch_store_other]

theorem IndexSet.has_addAll (t : IndexSet) (ks : List Nat) (j : Nat) :
    IndexSet.has (IndexSet.addAll t ks) j = (decide (j ∈ ks) || IndexSet.has t j) := by
  induction ks generalizing t with
  | nil => simp [IndexSet.addAll]
  | cons k ks ih =>
    have : IndexSet.addAll t (k :: ks) = IndexSet.addAll (IndexSet.add t k) ks := rfl
    rw [this, ih, IndexSet.has_add]
    by_cases h1 : j = k <;> by_cases h2 : j ∈ ks <;> simp [h1, h2]

/-! ## Search -/

/-- What the search finds: an index in range that satisfies the predicate, with none before it. -/
theorem firstFrom_some {p : Nat → Bool} {fuel start d : Nat} (h : firstFrom p fuel start = some d) :
    p d = true ∧ start ≤ d ∧ d < start + fuel ∧ ∀ e, start ≤ e → e < d → p e = false := by
  induction fuel generalizing start with
  | zero => simp [firstFrom] at h
  | succ fuel ih =>
    by_cases hp : p start = true
    · simp only [firstFrom, hp, if_true, Option.some.injEq] at h
      subst h
      exact ⟨hp, le_refl _, by omega, fun e h1 h2 => by omega⟩
    · simp only [firstFrom, hp, if_false, Bool.false_eq_true] at h
      obtain ⟨h1, h2, h3, h4⟩ := ih h
      refine ⟨h1, by omega, by omega, fun e he1 he2 => ?_⟩
      by_cases heq : e = start
      · subst heq; simpa using hp
      · exact h4 e (by omega) he2

/-- When the search finds nothing, no index in range satisfies the predicate. -/
theorem firstFrom_none {p : Nat → Bool} {fuel start : Nat} (h : firstFrom p fuel start = none) :
    ∀ e, start ≤ e → e < start + fuel → p e = false := by
  induction fuel generalizing start with
  | zero => intro e h1 h2; omega
  | succ fuel ih =>
    by_cases hp : p start = true
    · simp [firstFrom, hp] at h
    · simp only [firstFrom, hp, if_false, Bool.false_eq_true] at h
      intro e h1 h2
      by_cases heq : e = start
      · subst heq; simpa using hp
      · exact ih h e (by omega) (by omega)

/-! ## Slots -/

/-- Reading one slot's item. -/
@[simp] theorem perSlot_get {β : Type} (f : Fin 8 → β) (i : Fin 8) : (perSlot f)[i] = f i := by
  fin_cases i <;> rfl

/-- Every slot is in the list of slots. -/
@[simp] theorem mem_slotList (i : Fin 8) : i ∈ slotList := by fin_cases i <;> simp [slotList]

/-- Every direction is in the list of directions. -/
@[simp] theorem mem_directions (d : Direction) : d ∈ directions := by cases d <;> simp [directions]

end Sys2Proof.Machine
end

