-- ==== Sys2Proof/Laws/Frames.lean ====
section
/-! SUPPORT. What each shared operation can do: the blocks it changes, and that it only raises events.  One lemma per
operation, `<operation>_acts`; a claim cites it instead of unfolding the operation. -/

namespace Sys2Proof.Machine

/-! ## The relations -/

/-- Going from `u` to `v` the mask is kept, no bit is cleared, and a line that follows goes on following. -/
structure EventUnit.Grows (u v : EventUnit) : Prop where
  mask : v.mask = u.mask
  bits : ∀ e : Event, u.pends e = true → v.pends e = true
  line : u.attention = u.wanted → v.attention = v.wanted

/-- Going from `s` to `t` only the blocks `bs` change, and events only grow. -/
structure Acts (bs : List Block) (s t : State) : Prop where
  only : OnlyChanges bs s t
  grows : s.events.Grows t.events

theorem EventUnit.Grows.refl (u : EventUnit) : u.Grows u := ⟨rfl, fun _ h => h, fun h => h⟩

theorem EventUnit.Grows.trans {u v w : EventUnit} (h : u.Grows v) (k : v.Grows w) : u.Grows w :=
  ⟨k.mask.trans h.mask, fun e x => k.bits e (h.bits e x), fun x => k.line (h.line x)⟩

theorem Block.same_refl (b : Block) (s : State) : b.same s s := by cases b <;> rfl

theorem Block.same_trans {b : Block} {s t u : State} (h : b.same s t) (k : b.same t u) : b.same s u := by
  cases b <;> exact Eq.trans k h

theorem OnlyChanges.refl (bs : List Block) (s : State) : OnlyChanges bs s s := fun b _ => b.same_refl s

theorem OnlyChanges.trans {bs : List Block} {s t u : State} (h : OnlyChanges bs s t) (k : OnlyChanges bs t u) :
    OnlyChanges bs s u := fun b hb => Block.same_trans (h b hb) (k b hb)

theorem OnlyChanges.mono {bs cs : List Block} {s t : State} (h : OnlyChanges bs s t) (k : ∀ b ∈ bs, b ∈ cs) :
    OnlyChanges cs s t := fun b hb => h b fun hb' => hb (k b hb')

theorem Acts.refl (bs : List Block) (s : State) : Acts bs s s := ⟨OnlyChanges.refl bs s, EventUnit.Grows.refl _⟩

theorem Acts.trans {bs : List Block} {s t u : State} (h : Acts bs s t) (k : Acts bs t u) : Acts bs s u :=
  ⟨h.only.trans k.only, h.grows.trans k.grows⟩

theorem Acts.mono {bs cs : List Block} {s t : State} (h : Acts bs s t) (k : ∀ b ∈ bs, b ∈ cs) : Acts cs s t :=
  ⟨h.only.mono k, h.grows⟩

/-- Acting twice, on blocks `bs` and then on blocks `cs`. -/
theorem Acts.andThen {bs cs ds : List Block} {s t u : State} (h : Acts bs s t) (k : Acts cs t u)
    (hb : ∀ b ∈ bs, b ∈ ds) (hc : ∀ b ∈ cs, b ∈ ds) : Acts ds s u := (h.mono hb).trans (k.mono hc)

/-- A fold of steps that each act on `bs` acts on `bs`. -/
theorem Acts.foldl {β : Type} {bs : List Block} {f : State → β → State} (h : ∀ s x, Acts bs s (f s x)) (l : List β)
    (s : State) : Acts bs s (l.foldl f s) := by
  induction l generalizing s with
  | nil => exact Acts.refl bs s
  | cons x l ih => exact (h s x).trans (ih (f s x))

section Projections
variable {bs : List Block} {s t : State} (h : OnlyChanges bs s t)
include h
theorem OnlyChanges.pending (k : Block.pending ∉ bs := by decide) : t.pending = s.pending := h .pending k
theorem OnlyChanges.layout (k : Block.layout ∉ bs := by decide) : t.layout = s.layout := h .layout k
theorem OnlyChanges.input (k : Block.input ∉ bs := by decide) : t.input = s.input := h .input k
theorem OnlyChanges.store (k : Block.store ∉ bs := by decide) : t.store = s.store := h .store k
theorem OnlyChanges.scan (k : Block.scan ∉ bs := by decide) : t.scan = s.scan := h .scan k
theorem OnlyChanges.sense (k : Block.sense ∉ bs := by decide) : t.sense = s.sense := h .sense k
theorem OnlyChanges.map (k : Block.map ∉ bs := by decide) : t.map = s.map := h .map k
theorem OnlyChanges.plan (k : Block.plan ∉ bs := by decide) : t.plan = s.plan := h .plan k
theorem OnlyChanges.capture (k : Block.capture ∉ bs := by decide) : t.capture = s.capture := h .capture k
theorem OnlyChanges.control (k : Block.control ∉ bs := by decide) : t.control = s.control := h .control k
theorem OnlyChanges.params (k : Block.params ∉ bs := by decide) : t.params = s.params := h .params k
theorem OnlyChanges.events (k : Block.events ∉ bs := by decide) : t.events = s.events := h .events k
end Projections

/-! ## Replacing one block -/

theorem setInput_acts (s : State) (x : Receiver) : Acts [.input] s (s.setInput x) :=
  ⟨fun b hb => by cases b <;> first | rfl | simp at hb, EventUnit.Grows.refl _⟩
theorem setStore_acts (s : State) (x : List Row) : Acts [.store] s (s.setStore x) :=
  ⟨fun b hb => by cases b <;> first | rfl | simp at hb, EventUnit.Grows.refl _⟩
theorem setScan_acts (s : State) (x : Scan) : Acts [.scan] s (s.setScan x) :=
  ⟨fun b hb => by cases b <;> first | rfl | simp at hb, EventUnit.Grows.refl _⟩
theorem setSense_acts (s : State) (x : Sense) : Acts [.sense] s (s.setSense x) :=
  ⟨fun b hb => by cases b <;> first | rfl | simp at hb, EventUnit.Grows.refl _⟩
theorem setMap_acts (s : State) (x : DefectMap) : Acts [.map] s (s.setMap x) :=
  ⟨fun b hb => by cases b <;> first | rfl | simp at hb, EventUnit.Grows.refl _⟩
theorem setPlan_acts (s : State) (x : Plan) : Acts [.plan] s (s.setPlan x) :=
  ⟨fun b hb => by cases b <;> first | rfl | simp at hb, EventUnit.Grows.refl _⟩
theorem setCapture_acts (s : State) (x : Capture) : Acts [.capture] s (s.setCapture x) :=
  ⟨fun b hb => by cases b <;> first | rfl | simp at hb, EventUnit.Grows.refl _⟩
theorem setControl_acts (s : State) (x : ControlPort) : Acts [.control] s (s.setControl x) :=
  ⟨fun b hb => by cases b <;> first | rfl | simp at hb, EventUnit.Grows.refl _⟩
theorem setLayout_acts (s : State) (x : Layout) : Acts [.layout] s (s.setLayout x) :=
  ⟨fun b hb => by cases b <;> first | rfl | simp at hb, EventUnit.Grows.refl _⟩
theorem setParams_acts (s : State) (x : Params) : Acts [.params] s (s.setParams x) :=
  ⟨fun b hb => by cases b <;> first | rfl | simp at hb, EventUnit.Grows.refl _⟩

/-- Replacing the Event Unit by one that has grown. -/
theorem setEvents_acts (s : State) (x : EventUnit) (h : s.events.Grows x) : Acts [.events] s (s.setEvents x) :=
  ⟨fun b hb => by cases b <;> first | rfl | simp at hb, h⟩

/-! ## Events and counters -/

theorem EventUnit.raised_grows (u : EventUnit) (e : Event) : u.Grows (u.raised e) :=
  ⟨rfl, fun d h => by
      simp only [EventUnit.pends, EventUnit.raised, EventUnit.follow, BitVec.getLsbD_or] at h ⊢
      simp [h], fun _ => rfl⟩

theorem EventUnit.counted_grows (u : EventUnit) (c : Counter) : u.Grows (u.counted c) :=
  ⟨rfl, fun _ h => h, fun h => h⟩

/-- A raised event pends. -/
@[simp] theorem EventUnit.pends_raised (u : EventUnit) (e : Event) : (u.raised e).pends e = true := by
  simp only [EventUnit.pends, EventUnit.raised, EventUnit.follow, BitVec.getLsbD_or, BitVec.getLsbD_twoPow]
  cases e <;> simp [Event.bit]

/-- Counting leaves every event bit as it is. -/
@[simp] theorem EventUnit.pends_counted (u : EventUnit) (c : Counter) (e : Event) : (u.counted c).pends e = u.pends e :=
  rfl

theorem raise_acts (e : Event) (s : State) : Acts [.events] s (raise e s) := setEvents_acts _ _ (s.events.raised_grows e)

theorem count_acts (c : Counter) (s : State) : Acts [.events] s (count c s) :=
  setEvents_acts _ _ (s.events.counted_grows c)

theorem countTimes_acts (c : Counter) (n : Nat) (s : State) : Acts [.events] s (countTimes c n s) := by
  induction n generalizing s with
  | zero => exact Acts.refl _ s
  | succ n ih => exact (count_acts c s).trans (ih (count c s))

section EventFields
variable (s : State)
@[simp] theorem raise_pending (e : Event) : (raise e s).pending = s.pending := rfl
@[simp] theorem raise_layout (e : Event) : (raise e s).layout = s.layout := rfl
@[simp] theorem raise_input (e : Event) : (raise e s).input = s.input := rfl
@[simp] theorem raise_store (e : Event) : (raise e s).store = s.store := rfl
@[simp] theorem raise_scan (e : Event) : (raise e s).scan = s.scan := rfl
@[simp] theorem raise_sense (e : Event) : (raise e s).sense = s.sense := rfl
@[simp] theorem raise_map (e : Event) : (raise e s).map = s.map := rfl
@[simp] theorem raise_plan (e : Event) : (raise e s).plan = s.plan := rfl
@[simp] theorem raise_capture (e : Event) : (raise e s).capture = s.capture := rfl
@[simp] theorem raise_control (e : Event) : (raise e s).control = s.control := rfl
@[simp] theorem raise_params (e : Event) : (raise e s).params = s.params := rfl
@[simp] theorem raise_events (e : Event) : (raise e s).events = s.events.raised e := rfl
@[simp] theorem count_pending (c : Counter) : (count c s).pending = s.pending := rfl
@[simp] theorem count_layout (c : Counter) : (count c s).layout = s.layout := rfl
@[simp] theorem count_input (c : Counter) : (count c s).input = s.input := rfl
@[simp] theorem count_store (c : Counter) : (count c s).store = s.store := rfl
@[simp] theorem count_scan (c : Counter) : (count c s).scan = s.scan := rfl
@[simp] theorem count_sense (c : Counter) : (count c s).sense = s.sense := rfl
@[simp] theorem count_map (c : Counter) : (count c s).map = s.map := rfl
@[simp] theorem count_plan (c : Counter) : (count c s).plan = s.plan := rfl
@[simp] theorem count_capture (c : Counter) : (count c s).capture = s.capture := rfl
@[simp] theorem count_control (c : Counter) : (count c s).control = s.control := rfl
@[simp] theorem count_params (c : Counter) : (count c s).params = s.params := rfl
@[simp] theorem count_events (c : Counter) : (count c s).events = s.events.counted c := rfl
end EventFields

/-! ## Planner (blocks plan and events) -/

/-- The blocks a recompute round may change. -/
abbrev planBlocks : List Block := [.plan, .events]

theorem setPendingSelect_acts (n : Nat) (x : Select) (s : State) : Acts [.plan] s (setPendingSelect n x s) :=
  setPlan_acts _ _

theorem setPendingEntry_acts (n : Nat) (e : Option BoostEntry) (s : State) : Acts [.plan] s (setPendingEntry n e s) :=
  setPlan_acts _ _

theorem setShortfall_acts (n : Nat) (b : Bool) (s : State) : Acts [.plan] s (setShortfall n b s) := setPlan_acts _ _

theorem setDeferred_acts (n : Nat) (s : State) : Acts [.plan] s (setDeferred n s) := setPlan_acts _ _

theorem removeBoost_acts (n : Nat) (d : Direction) (s : State) : Acts [.plan] s (removeBoost n d s) := by
  unfold removeBoost
  split
  · exact Acts.refl _ s
  · exact setPendingEntry_acts _ _ s

theorem removeBoostFrom_acts (n : Nat) (s : State) (d : Direction) : Acts [.plan] s (removeBoostFrom n s d) := by
  unfold removeBoostFrom
  split
  · exact Acts.refl _ s
  · exact removeBoost_acts _ _ s

theorem removeBoostsAt_acts (n : Nat) (s : State) : Acts [.plan] s (removeBoostsAt n s) :=
  Acts.foldl (removeBoostFrom_acts n) _ s

theorem refuseBoosts_acts (k : Nat) (s : State) : Acts [.events] s (refuseBoosts k s) := by
  unfold refuseBoosts
  split
  · exact Acts.refl _ s
  · exact (countTimes_acts _ _ s).trans (raise_acts _ _)

theorem placeBoosts_acts (ds : List (Direction × Nat)) (s : State) : Acts planBlocks s (placeBoosts ds s) := by
  unfold placeBoosts
  split
  · exact (raise_acts _ s).mono (by decide)
  · split
    · exact Acts.refl _ s
    · exact (Acts.foldl (fun s c => setPendingEntry_acts _ _ s) _ s).mono (by decide)

theorem assignDonors_acts (n : Nat) (s : State) : Acts planBlocks s (assignDonors n s) := by
  unfold assignDonors
  exact ((refuseBoosts_acts _ s).mono (by decide)).trans
    (((setShortfall_acts _ _ _).mono (by decide)).trans (placeBoosts_acts _ _))

theorem recompute_acts (n : Nat) (s : State) : Acts planBlocks s (recompute n s) := by
  unfold recompute
  have h := (removeBoostsAt_acts n s).mono (cs := planBlocks) (by decide)
  dsimp only
  split
  · exact h.trans ((setShortfall_acts _ _ _).mono (by decide))
  · exact h.trans (assignDonors_acts _ _)

theorem recomputeOrDefer_acts (s : State) (n : Nat) : Acts planBlocks s (recomputeOrDefer s n) := by
  unfold recomputeOrDefer
  split
  · exact Acts.refl _ s
  · split
    · exact (setDeferred_acts n s).mono (by decide)
    · exact recompute_acts n s

theorem deriveOne_acts (acc : State × IndexSet) (n : Nat) : Acts planBlocks acc.1 (deriveOne acc n).1 := by
  unfold deriveOne
  dsimp only
  split
  · exact (setDeferred_acts n _).mono (by decide)
  · split
    · exact Acts.refl _ _
    · split
      · exact ((setPendingSelect_acts _ _ _).mono (by decide)).trans
          (((raise_acts _ _).mono (by decide)).trans ((setPendingEntry_acts _ _ _).mono (by decide)))
      · split
        · exact (((setPendingSelect_acts _ _ _).trans (removeBoostsAt_acts _ _)).trans (setShortfall_acts _ _ _)).mono
            (by decide)
        · exact (setPendingSelect_acts _ _ _).mono (by decide)

/-- Phase 1 over a re-derive set. -/
theorem derive_acts (l : List Nat) (acc : State × IndexSet) : Acts planBlocks acc.1 (l.foldl deriveOne acc).1 := by
  induction l generalizing acc with
  | nil => exact Acts.refl _ _
  | cons n l ih => exact (deriveOne_acts acc n).trans (ih _)

theorem phaseThree_acts (s : State) : Acts planBlocks s (phaseThree s) := Acts.foldl recomputeOrDefer_acts _ s

theorem markEdited_acts (p : Plan) (s : State) : Acts [.plan] s (markEdited p s) := setPlan_acts _ _

/-- A round changes the Pending Plan and raises events, and does nothing else (R138). -/
theorem takeRound_acts (a b : List Nat) (s : State) : Acts planBlocks s (takeRound a b s) := by
  have h1 := derive_acts a (s, IndexSet.addAll [] b)
  have h2 : ∀ l t, Acts planBlocks t (List.foldl recomputeOrDefer t l) := fun l t => Acts.foldl recomputeOrDefer_acts l t
  have h3 : ∀ t, Acts planBlocks t (markEdited s.plan t) := fun t => (markEdited_acts _ t).mono (by decide)
  exact h1.trans ((h2 _ _).trans ((phaseThree_acts _).trans (h3 _)))

theorem standingRound_acts (d : Nat) (s : State) : Acts planBlocks s (standingRound d s) := takeRound_acts _ _ s

theorem darkRound_acts (i : Fin 8) (s : State) : Acts planBlocks s (darkRound i s) := takeRound_acts _ _ s

theorem fractionRound_acts (s : State) : Acts planBlocks s (fractionRound s) := takeRound_acts _ _ s

theorem cutRound_acts (n : Nat) (s : State) : Acts planBlocks s (cutRound n s) := takeRound_acts _ _ s

theorem releaseRound_acts (s : State) : Acts planBlocks s (releaseRound s) :=
  ((setPlan_acts _ _).mono (by decide)).trans (takeRound_acts _ _ _)

theorem restartRound_acts (l : List (Fin 8)) (s : State) : Acts planBlocks s (restartRound l s) :=
  ((setPlan_acts _ _).mono (by decide)).trans (takeRound_acts _ _ _)

/-! ## Capture -/

/-- A match stores its snapshot, moves the capture state, sets holds and raises CAPTURE_FIRED (R164 to R166). -/
theorem captureMatch_acts (t : Transition) (s : State) : Acts [.capture, .events] s (captureMatch t s) := by
  unfold captureMatch
  dsimp only
  refine Acts.trans ?_ ((raise_acts _ _).mono (by decide))
  split
  · exact ((setCapture_acts _ _).mono (by decide)).trans ((count_acts _ _).mono (by decide))
  · exact (setCapture_acts _ _).mono (by decide)

theorem offerCapture_acts (t : Transition) (s : State) : Acts [.capture, .events] s (offerCapture t s) := by
  unfold offerCapture
  split
  · exact captureMatch_acts t s
  · exact Acts.refl _ s

/-! ## Transitions and observations -/

theorem setLong_acts (l : LongSlot) (s : State) : Acts [.sense] s (setLong l s) := setSense_acts _ _

theorem endLong_acts (o : LongOutcome) (s : State) : Acts [.sense] s (endLong o s) := setSense_acts _ _

theorem retestLeft_acts (k : TransitionKind) (s : State) : Acts [.sense, .events] s (retestLeft k s) := by
  have h1 : Acts [.sense, .events] s (setLong (s.sense.long.counted k) s) := (setLong_acts _ s).mono (by decide)
  have h2 : ∀ t, Acts [.sense, .events] t (endLong .complete t) := fun t => (endLong_acts _ t).mono (by decide)
  have h3 : ∀ t, Acts [.sense, .events] t (raise .longDone t) := fun t => (raise_acts _ t).mono (by decide)
  unfold retestLeft
  dsimp only
  split
  · exact h1.trans ((h2 _).trans (h3 _))
  · exact h1

theorem kindEffects_acts (k : TransitionKind) (s : State) : Acts [.events] s (kindEffects k s) := by
  cases k <;> simp only [kindEffects]
  all_goals first
    | exact Acts.refl _ s
    | exact (raise_acts _ s).trans (count_acts _ _)
    | exact count_acts _ s
    | exact raise_acts _ s

theorem appendTransition_acts (t : Transition) (s : State) : Acts [.map, .events] s (appendTransition t s) := by
  unfold appendTransition
  dsimp only
  split
  · split
    · exact ((setMap_acts _ _).mono (by decide)).trans ((raise_acts _ _).mono (by decide))
    · exact (setMap_acts _ _).mono (by decide)
  · exact ((setMap_acts _ _).mono (by decide)).trans
      (((raise_acts _ _).mono (by decide)).trans ((count_acts _ _).mono (by decide)))

/-- What announcing a transition can change (R108). -/
theorem announce_acts (k : TransitionKind) (d : Nat) (f : DieFault) (a b : Bool) (s : State) :
    Acts dieBlocks s (announce k d f a b s) := by
  have h1 : ∀ t, Acts dieBlocks s (appendTransition t s) := fun t => (appendTransition_acts t s).mono (by decide)
  have h2 : ∀ u, Acts dieBlocks u (kindEffects k u) := fun u => (kindEffects_acts k u).mono (by decide)
  have h3 : ∀ t u, Acts dieBlocks u (offerCapture t u) := fun t u => (offerCapture_acts t u).mono (by decide)
  have h4 : ∀ u, Acts dieBlocks u (standingRound d u) := fun u => (standingRound_acts d u).mono (by decide)
  have h5 : ∀ u, Acts dieBlocks u (retestLeft k u) := fun u => (retestLeft_acts k u).mono (by decide)
  have h := fun t => (h1 t).trans ((h2 _).trans (h3 t _))
  unfold announce
  dsimp only
  cases a <;> cases b <;> simp only [if_true, if_false, Bool.false_eq_true]
  · exact h _
  · exact (h _).trans (h5 _)
  · exact (h _).trans (h4 _)
  · exact (h _).trans ((h4 _).trans (h5 _))

theorem putRecord_acts (d : Nat) (r : DefectRecord) (s : State) : Acts dieBlocks s (putRecord d r s) :=
  (setMap_acts _ _).mono (by decide)

theorem dropRecord_acts (d : Nat) (s : State) : Acts dieBlocks s (dropRecord d s) := (setMap_acts _ _).mono (by decide)

theorem confirmRecord_acts (d : Nat) (r : DefectRecord) (s : State) : Acts dieBlocks s (confirmRecord d r s) :=
  (putRecord_acts _ _ _).trans (announce_acts _ _ _ _ _ _)

theorem makeRoom_acts {s t : State} (h : makeRoom s = some t) : Acts dieBlocks s t := by
  unfold makeRoom at h
  split at h
  · obtain rfl := Option.some.inj h; exact Acts.refl _ _
  · split at h
    · exact absurd h (by simp)
    · obtain rfl := Option.some.inj h
      exact (dropRecord_acts _ _).trans (announce_acts _ _ _ _ _ _)

theorem judgeSuspect_acts (d : Nat) (r : DefectRecord) (s : State) : Acts dieBlocks s (judgeSuspect d r s) := by
  unfold judgeSuspect
  split
  · exact confirmRecord_acts _ _ _
  · split
    · exact (dropRecord_acts _ _).trans (announce_acts _ _ _ _ _ _)
    · exact putRecord_acts _ _ _

theorem judgeRetest_acts (d : Nat) (r : DefectRecord) (b : Bool) (s : State) :
    Acts dieBlocks s (judgeRetest d r b s) := by
  unfold judgeRetest
  split
  · exact (putRecord_acts _ _ _).trans (announce_acts _ _ _ _ _ _)
  · split
    · exact (dropRecord_acts _ _).trans (announce_acts _ _ _ _ _ _)
    · exact putRecord_acts _ _ _

theorem observeNew_acts (d : Nat) (o : TestAnswer) (s : State) : Acts dieBlocks s (observeNew d o s) := by
  have drop : Acts dieBlocks s (raise .mapFull (count .mapFullDrops s)) :=
    ((count_acts _ _).trans (raise_acts _ _)).mono (by decide)
  unfold observeNew
  cases o with
  | ok => exact Acts.refl _ s
  | opened =>
    dsimp only
    split
    · exact drop
    · rename_i h
      exact (makeRoom_acts h).trans ((putRecord_acts _ _ _).trans ((announce_acts _ _ _ _ _ _).trans (judgeSuspect_acts _ _ _)))
  | shorted =>
    dsimp only
    split
    · exact drop
    · rename_i h
      exact (makeRoom_acts h).trans
        ((putRecord_acts _ _ _).trans ((announce_acts _ _ _ _ _ _).trans (announce_acts _ _ _ _ _ _)))

/-- What an observation can change (R107, R108). -/
theorem observe_acts (d : Nat) (o : TestAnswer) (s : State) : Acts dieBlocks s (observe d o s) := by
  unfold observe
  split
  · exact observeNew_acts d o s
  · rename_i r _
    cases r.state <;> dsimp only
    · cases o <;> simp only [observeSuspect]
      · exact judgeSuspect_acts _ _ _
      · exact judgeSuspect_acts _ _ _
      · exact confirmRecord_acts _ _ _
    · exact Acts.refl _ s
    · cases o <;> simp only [observeRetest] <;> exact judgeRetest_acts _ _ _ _
    · exact Acts.refl _ s
    · exact Acts.refl _ s

theorem abandonOne_acts (s : State) (d : Nat) : Acts dieBlocks s (abandonOne s d) := by
  unfold abandonOne
  split
  · exact Acts.refl _ s
  · exact (putRecord_acts _ _ _).trans (announce_acts _ _ _ _ _ _)

theorem stopLong_acts (o : LongOutcome) (s : State) : Acts dieBlocks s (stopLong o s) := by
  unfold stopLong
  have h := fun s => (endLong_acts o s).mono (cs := dieBlocks) (by decide)
  split
  · exact Acts.trans (Acts.foldl abandonOne_acts _ s) (h _)
  · exact h s

/-! ## Sense Unit -/

/-- The blocks the choice of a gap's tests may change. -/
abbrev gapBlocks : List Block := [.sense, .events]

theorem setModule_acts (i : Fin 8) (m : ModuleItem) (s : State) : Acts [.sense] s (setModule i m s) := setSense_acts _ _

theorem chooseDie_acts (d : Nat) (p : Purpose) (b : Bool) (s : State) : Acts gapBlocks s (chooseDie d p b s) :=
  (setSense_acts _ _).mono (by decide)

theorem probeSlot_acts (s : State) (i : Fin 8) : Acts gapBlocks s (probeSlot s i) := by
  unfold probeSlot
  split
  · split
    · exact Acts.refl _ s
    · exact (chooseDie_acts _ _ _ _).trans
        (((setModule_acts _ _ _).mono (by decide)).trans ((setSense_acts _ _).mono (by decide)))
  · exact Acts.refl _ s

theorem probeStep_acts (s : State) : Acts gapBlocks s (probeStep s) := Acts.foldl probeSlot_acts _ s

theorem dueStep_acts (s : State) : Acts gapBlocks s (dueStep s) :=
  Acts.foldl (fun _ _ => (chooseDie_acts _ _ _ _).trans ((setSense_acts _ _).mono (by decide))) _ s

theorem surveyTurn_acts (d : Nat) (s : State) : Acts gapBlocks s (surveyTurn d s) := by
  have base : Acts gapBlocks s
      (if s.onDark d then countSkipped s else if s.chosen d then shareTest d s else chooseDie d .survey true s) := by
    split
    · exact (setLong_acts _ s).mono (by decide)
    · split
      · exact (setSense_acts _ _).mono (by decide)
      · exact chooseDie_acts _ _ _ _
  unfold surveyTurn
  split
  · exact Acts.refl _ s
  · split
    all_goals first | exact Acts.refl _ s | exact base

theorem surveyStep_acts (n : Nat) (s : State) : Acts gapBlocks s (surveyStep n s) := by
  induction n generalizing s with
  | zero => exact Acts.refl _ s
  | succ n ih =>
    unfold surveyStep
    split
    · exact Acts.refl _ s
    · split
      · exact Acts.refl _ s
      · exact (surveyTurn_acts _ _).trans (Acts.trans ((setLong_acts _ _).mono (by decide)) (ih _))

theorem patrolTake_acts (d : Nat) (s : State) : Acts gapBlocks s (patrolTake d s) := by
  unfold patrolTake
  dsimp only
  split
  · exact (chooseDie_acts _ _ _ _).trans ((setSense_acts _ _).mono (by decide))
  · exact (chooseDie_acts _ _ _ _).trans
      (((setSense_acts _ _).mono (by decide)).trans ((count_acts _ _).mono (by decide)))

theorem patrolOne_acts (s : State) : Acts gapBlocks s (patrolOne s) := by
  unfold patrolOne
  dsimp only
  split
  · exact patrolTake_acts _ _
  · split
    · exact ((count_acts _ _).mono (by decide)).trans (patrolTake_acts _ _)
    · exact Acts.refl _ s

theorem patrolStep_acts (b : Nat) (s : State) : Acts gapBlocks s (patrolStep b s) := by
  induction b generalizing s with
  | zero => exact Acts.refl _ s
  | succ b ih => exact (patrolOne_acts s).trans (ih _)

/-- The choice of a gap's tests changes the Sense Unit and counts, and does nothing else (R80). -/
theorem chooseTests_acts (s : State) : Acts gapBlocks s (chooseTests s) := by
  unfold chooseTests
  dsimp only
  refine Acts.trans ((probeStep_acts s).trans (dueStep_acts _)) ?_
  split
  · exact (surveyStep_acts _ _).trans (patrolStep_acts _ _)
  · exact patrolStep_acts _ _

theorem sendTests_acts (s : State) : Acts gapBlocks s (sendTests s) :=
  ((setSense_acts _ _).mono (by decide)).trans ((countTimes_acts _ _ _).mono (by decide))

/-- A gap start changes the Sense Unit and counts, and does nothing else (R79). -/
theorem gapStart_acts (s : State) : Acts gapBlocks s (gapStart s) :=
  Acts.trans ((setSense_acts s _).mono (by decide)) ((chooseTests_acts _).trans (sendTests_acts _))

/-- Sending changes the requests alone in the Sense Unit: every port is sent the gap list's dies of its slot (R79). -/
theorem sendTests_sense (s : State) :
    (sendTests s).sense = { s.sense with requests := perSlot s.gapDiesOn } :=
  (countTimes_acts _ _ _).1 .sense (by decide)

/-- The blocks a result's module part may change. -/
abbrev moduleBlocks : List Block := [.sense, .plan, .events]

theorem noAnswerModule_acts (i : Fin 8) (s : State) : Acts moduleBlocks s (noAnswerModule i s) := by
  unfold noAnswerModule
  dsimp only
  split
  · exact ((setModule_acts _ _ _).mono (by decide)).trans
      (((raise_acts _ _).mono (by decide)).trans ((darkRound_acts _ _).mono (by decide)))
  · exact (setModule_acts _ _ _).mono (by decide)

theorem answerModule_acts (i : Fin 8) (hot : Bool) (s : State) : Acts moduleBlocks s (answerModule i hot s) := by
  have h1 : ∀ m, Acts moduleBlocks s (setModule i m s) := fun m => (setModule_acts _ _ _).mono (by decide)
  have h2 : ∀ t, Acts moduleBlocks t (raise .moduleHot t) := fun t => (raise_acts _ _).mono (by decide)
  have h3 : ∀ t, Acts moduleBlocks t (darkRound i t) := fun t => (darkRound_acts _ _).mono (by decide)
  have h12 := fun m => (h1 m).trans (h2 _)
  have h13 := fun m => (h1 m).trans (h3 _)
  have h123 := fun m => (h12 m).trans (h3 _)
  unfold answerModule
  dsimp only
  split
  · split
    · exact h123 _
    · exact h13 _
  · split
    · exact h12 _
    · exact h1 _
  · split
    · exact h1 _
    · exact h1 _
  · exact h1 _

theorem judgeAnswer_acts (d : Nat) (b : Bool) (o : TestAnswer) (s : State) : Acts dieBlocks s (judgeAnswer d b o s) := by
  have h1 : ∀ t, Acts dieBlocks t (countSkipped t) := fun t => (setLong_acts _ t).mono (by decide)
  have h2 : ∀ t, Acts dieBlocks t (countTested o t) := fun t => (setLong_acts _ t).mono (by decide)
  have h3 : Acts dieBlocks s (count .hotDiscards s) := (count_acts _ s).mono (by decide)
  unfold judgeAnswer
  split
  · exact Acts.refl _ s
  · split
    · dsimp only
      split
      · exact h3.trans (h1 _)
      · exact h3
    · split
      · exact (h2 _).trans (observe_acts _ _ _)
      · exact observe_acts _ _ _

/-- What an answer to a gap test can change (R85). -/
theorem takeAnswer_acts (x : GapTest) (o : TestAnswer) (hot : Bool) (s : State) :
    Acts dieBlocks s (takeAnswer x o hot s) := by
  unfold takeAnswer
  split
  · exact Acts.refl _ s
  · split
    · exact Acts.refl _ s
    · exact Acts.trans ((setSense_acts _ _).mono (by decide))
        (((answerModule_acts _ _ _).mono (by decide)).trans (judgeAnswer_acts _ _ _ _))

/-- An answer to a gap other than the one in progress changes nothing (R79). -/
theorem takeAnswer_late (x : GapTest) (o : TestAnswer) (hot : Bool) (s : State) (h : x.gapNumber ≠ s.sense.gapNumber) :
    takeAnswer x o hot s = s := if_pos h

theorem takeNoAnswer_acts (s : State) (e : Nat × Bool) : Acts moduleBlocks s (takeNoAnswer s e) := by
  unfold takeNoAnswer
  dsimp only
  have h : Acts moduleBlocks s (noAnswerModule (slotOfChannel (dieChannel e.1)) (markTaken e.1 s)) :=
    Acts.trans ((setSense_acts _ _).mono (by decide)) (noAnswerModule_acts _ _)
  split
  · exact h.trans ((setLong_acts _ _).mono (by decide))
  · exact h

/-- What the end of an ACTIVE gap can change in the Sense Unit's part (R79). -/
theorem senseGapEnd_acts (s : State) : Acts moduleBlocks s (senseGapEnd s) := by
  have h1 : ∀ l, Acts moduleBlocks s (List.foldl takeNoAnswer s l) := fun l => Acts.foldl takeNoAnswer_acts l s
  have h2 : ∀ t, Acts moduleBlocks t (settleFalls t) := fun t => (setSense_acts t _).mono (by decide)
  have h3 : ∀ t, Acts moduleBlocks t (surveyCheck t) := by
    intro t
    have e1 : Acts moduleBlocks t (endLong .complete t) := (endLong_acts _ t).mono (by decide)
    have e2 : ∀ u, Acts moduleBlocks u (raise .longDone u) := fun u => (raise_acts _ u).mono (by decide)
    unfold surveyCheck
    dsimp only
    split
    · exact e1.trans (e2 _)
    · exact Acts.refl _ t
  have h4 : ∀ t, Acts moduleBlocks t (emptyGap t) := fun t => (setSense_acts t _).mono (by decide)
  exact (h1 _).trans ((h2 _).trans ((h3 _).trans (h4 _)))

/-! ## Row Store, receiver and Scan Engine -/

theorem requestStandby_acts (s : State) : Acts [.scan] s (requestStandby s) := by
  unfold requestStandby
  split
  · exact setScan_acts _ _
  · exact Acts.refl _ s

theorem storePassStart_acts (s : State) : Acts [.store, .scan, .events] s (storePassStart s) := by
  have h1 : ∀ x, Acts [.store, .scan, .events] s (s.setStore x) := fun x => (setStore_acts s x).mono (by decide)
  have h2 : ∀ c n t, Acts [.store, .scan, .events] t (countTimes c n t) := fun c n t => (countTimes_acts c n t).mono (by decide)
  have h3 : ∀ e t, Acts [.store, .scan, .events] t (raise e t) := fun e t => (raise_acts e t).mono (by decide)
  have h4 : ∀ t, Acts [.store, .scan, .events] t (requestStandby t) := fun t => (requestStandby_acts t).mono (by decide)
  unfold storePassStart
  dsimp only
  split
  · exact (h1 _).trans (h2 _ _ _)
  · split
    · exact (h1 _).trans ((h2 _ _ _).trans ((h3 _ _).trans (h4 _)))
    · exact (h1 _).trans ((h2 _ _ _).trans (h3 _ _))

theorem planCopy_acts (s : State) : Acts [.scan, .plan] s (planCopy s) :=
  ((setScan_acts _ _).mono (by decide)).trans ((setPlan_acts _ _).mono (by decide))

/-- The blocks a pass start may change. -/
abbrev passBlocks : List Block := [.scan, .store, .plan, .events]

/-- What a pass start can change (R57 and Chapter 3). -/
theorem passStart_acts (s : State) : Acts passBlocks s (passStart s) :=
  ((setScan_acts _ _).mono (by decide)).trans
    (((planCopy_acts _).mono (by decide)).trans ((storePassStart_acts _).mono (by decide)))

theorem wakeDisplay_acts (s : State) : Acts passBlocks s (wakeDisplay s) := by
  unfold wakeDisplay
  split
  · exact ((setScan_acts _ _).mono (by decide)).trans (passStart_acts _)
  · exact Acts.refl _ s

theorem closeRows_acts (s : State) : Acts [.store] s (closeRows s) := by
  unfold closeRows
  split <;> exact setStore_acts _ _

/-- The blocks a frame's close or cut may change. -/
abbrev frameBlocks : List Block := [.input, .store, .events]

theorem closeFrame_acts (s : State) : Acts frameBlocks s (closeFrame s) :=
  ((closeRows_acts s).mono (by decide)).trans
    (((count_acts _ _).mono (by decide)).trans ((setInput_acts _ _).mono (by decide)))

theorem cutFrame_acts (s : State) : Acts [.store, .events] s (cutFrame s) := by
  unfold cutFrame
  dsimp only
  split
  · exact ((countTimes_acts _ _ _).mono (by decide)).trans
      (((closeRows_acts _).mono (by decide)).trans ((count_acts _ _).mono (by decide)))
  · exact ((closeRows_acts _).mono (by decide)).trans ((count_acts _ _).mono (by decide))

theorem cutForStandby_acts (s : State) : Acts frameBlocks s (cutForStandby s) := by
  unfold cutForStandby
  split
  · exact ((cutFrame_acts s).mono (by decide)).trans ((setInput_acts _ _).mono (by decide))
  · exact Acts.refl _ s

theorem lightRow_acts (s : State) : Acts [.scan, .events] s (lightRow s) := by
  unfold lightRow
  dsimp only
  split
  · refine Acts.trans (t := markClip _ s) ?_ ((setScan_acts _ _).mono (by decide))
    unfold markClip
    split
    · exact ((setScan_acts _ _).mono (by decide)).trans ((count_acts _ _).mono (by decide))
    · exact Acts.refl _ s
  · exact Acts.refl _ s

theorem fallAsleep_acts (s : State) : Acts ([.scan, .input, .store] ++ dieBlocks) s (fallAsleep s) := by
  have h1 : ∀ x, Acts ([.scan, .input, .store] ++ dieBlocks) s (s.setScan x) := fun x => (setScan_acts s x).mono (by decide)
  have h2 : ∀ t, Acts ([.scan, .input, .store] ++ dieBlocks) t (cutForStandby t) :=
    fun t => (cutForStandby_acts t).mono (by decide)
  have h3 : ∀ o t, Acts ([.scan, .input, .store] ++ dieBlocks) t (stopLong o t) :=
    fun o t => (stopLong_acts o t).mono (by decide)
  have h4 : ∀ e t, Acts ([.scan, .input, .store] ++ dieBlocks) t (raise e t) := fun e t => (raise_acts e t).mono (by decide)
  unfold fallAsleep
  dsimp only
  split
  · exact (h1 _).trans ((h2 _).trans ((h3 _ _).trans (h4 _ _)))
  · exact (h1 _).trans (h2 _)

theorem enterGap_acts (s : State) : Acts [.scan, .sense, .events] s (enterGap s) := by
  unfold enterGap
  dsimp only
  split
  · exact ((setScan_acts _ _).mono (by decide)).trans ((gapStart_acts _).mono (by decide))
  · exact (setScan_acts _ _).mono (by decide)

theorem endGap_acts (s : State) : Acts [.scan, .store, .plan, .sense, .events] s (endGap s) := by
  have hw : ∀ t, Acts [.scan, .store, .plan, .sense, .events] t (wokenCheck t) := by
    intro t
    unfold wokenCheck
    split
    · exact ((setScan_acts _ _).mono (by decide)).trans ((raise_acts _ _).mono (by decide))
    · exact Acts.refl _ t
  unfold endGap
  split
  · refine Acts.trans ?_ ((hw _).trans ((passStart_acts _).mono (by decide)))
    split
    · exact (senseGapEnd_acts s).mono (by decide)
    · exact Acts.refl _ s
  · exact Acts.refl _ s

theorem cutChannel_acts (n : Nat) (s : State) : Acts [.scan, .plan, .events] s (cutChannel n s) := by
  unfold cutChannel
  dsimp only
  have h : Acts [.scan, .plan, .events] s (setPendingEntry n none (setPendingSelect n .off (s.setScan { s.scan with
      liveSelect := Table.hold .a s.scan.liveSelect n .off
      liveBoost := Table.discard s.scan.liveBoost n }))) :=
    ((setScan_acts _ _).mono (by decide)).trans
      (((setPendingSelect_acts _ _ _).mono (by decide)).trans ((setPendingEntry_acts _ _ _).mono (by decide)))
  split
  · exact h
  · exact h.trans ((raise_acts _ _).mono (by decide))

/-- What a live short report can change (R71 to R74). -/
theorem liveShort_acts (d : Nat) (s : State) : Acts (.scan :: dieBlocks) s (liveShort d s) := by
  unfold liveShort
  split
  · exact Acts.refl _ s
  · split
    · exact Acts.refl _ s
    · split
      · exact (count_acts _ s).mono (by decide)
      · exact ((cutChannel_acts _ _).mono (by decide)).trans
          (((observe_acts _ _ _).mono (by decide)).trans ((cutRound_acts _ _).mono (by decide)))

/-! ## Video Input Link -/

/-- The blocks a byte of the link may change. -/
abbrev linkBlocks : List Block := [.input, .store, .scan, .plan, .events]

theorem setInput_link (s : State) (x : Receiver) : Acts linkBlocks s (s.setInput x) := (setInput_acts s x).mono (by decide)

theorem count_link (c : Counter) (s : State) : Acts linkBlocks s (count c s) := (count_acts c s).mono (by decide)

theorem cutIfRows_acts (s : State) :
    Acts linkBlocks s (if s.input.state = .rows then cutFrame s else s) := by
  split
  · exact (cutFrame_acts s).mono (by decide)
  · exact Acts.refl _ s

theorem symbolError_acts (s : State) : Acts linkBlocks s (symbolError s) :=
  (count_link _ s).trans ((cutIfRows_acts _).trans (setInput_link _ _))

theorem linkSync_acts (s : State) : Acts linkBlocks s (linkSync s) := (cutIfRows_acts s).trans (setInput_link _ _)

theorem settleSequence_acts (q : BitVec 16) (s : State) : Acts linkBlocks s (settleSequence q s) := by
  unfold settleSequence
  dsimp only
  split
  · exact (count_link _ s).trans (setInput_link _ _)
  · exact setInput_link _ _

theorem judgeHeader_acts (h : List Byte) (s : State) : Acts linkBlocks s (judgeHeader h s) := by
  have h1 : ∀ c t, Acts linkBlocks t (toRx .discard (count c t)) := fun c t => (count_link c t).trans (setInput_link _ _)
  have h2 : ∀ t, Acts linkBlocks t (wakeDisplay t) := fun t => (wakeDisplay_acts t).mono (by decide)
  have h3 : ∀ a b t, Acts linkBlocks t (headerInStandby a b t) := by
    intro a b t
    unfold headerInStandby
    dsimp only
    split
    · exact (h1 _ t).trans (h2 _)
    · exact h1 _ t
  have h4 : ∀ a t, Acts linkBlocks t (openFrame a t) := fun a t => setInput_link t _
  unfold judgeHeader
  dsimp only
  split
  · exact h1 _ s
  · split
    · exact h1 _ s
    · split
      · exact (settleSequence_acts _ s).trans (h3 _ _ _)
      · exact (settleSequence_acts _ s).trans (h4 _ _)

theorem headerData_acts (b : Byte) (s : State) : Acts linkBlocks s (headerData b s) := by
  unfold headerData
  dsimp only
  split
  · exact (setInput_link _ _).trans (judgeHeader_acts _ _)
  · exact setInput_link _ _

theorem updateRow_acts (y : Nat) (f : Row → Row) (s : State) : Acts linkBlocks s (updateRow y f s) :=
  (setStore_acts _ _).mono (by decide)

theorem updateRowIf_acts (c : Bool) (y : Nat) (f : Row → Row) (s : State) :
    Acts linkBlocks s (if c = true then updateRow y f s else s) := by
  split
  · exact updateRow_acts _ _ _
  · exact Acts.refl _ s

theorem blockIndex_acts (b : Byte) (s : State) : Acts linkBlocks s (blockIndex b s) := by
  have h : ∀ x, Acts linkBlocks s (s.setInput x) := fun x => setInput_link s x
  unfold blockIndex
  dsimp only
  split
  · split
    · exact (h _).trans ((updateRow_acts _ _ _).trans (count_link _ _))
    · exact (h _).trans (updateRow_acts _ _ _)
  · exact h _

theorem blockData_acts (n : Nat) (b : Byte) (s : State) : Acts linkBlocks s (blockData n b s) := by
  exact (setInput_link s _).trans (updateRowIf_acts _ _ _ _)

theorem blockCheck_acts (b : Byte) (s : State) : Acts linkBlocks s (blockCheck b s) := by
  have h := fun x => setInput_link s x
  have k := fun x => (h x).trans (count_link .rowsBad _)
  unfold blockCheck
  dsimp only
  split
  · exact (h _).trans (updateRowIf_acts _ _ _ _)
  · exact (k _).trans (updateRowIf_acts _ _ _ _)

theorem rowsData_acts (b : Byte) (s : State) : Acts linkBlocks s (rowsData b s) := by
  unfold rowsData
  split
  · exact blockIndex_acts b s
  · exact blockData_acts _ b s
  · exact blockCheck_acts b s

theorem linkData_acts (b : Byte) (s : State) : Acts linkBlocks s (linkData b s) := by
  unfold linkData
  split
  · exact rowsData_acts b s
  · exact headerData_acts b s

theorem completeEscape_acts (b : Byte) (s : State) : Acts linkBlocks s (completeEscape b s) := by
  have h : ∀ x, Acts linkBlocks s (s.setInput x) := fun x => setInput_link s x
  unfold completeEscape
  dsimp only
  split
  · exact (h _).trans (linkData_acts _ _)
  · split
    · exact (h _).trans ((symbolError_acts _).trans (linkSync_acts _))
    · exact (h _).trans (symbolError_acts _)

theorem sortByte_acts (b : Byte) (s : State) : Acts linkBlocks s (sortByte b s) := by
  unfold sortByte
  split
  · exact Acts.refl _ s
  · split
    · exact completeEscape_acts b s
    · split
      · exact setInput_link _ _
      · split
        · exact linkSync_acts s
        · split
          · unfold linkEndSymbol
            split
            · exact (closeFrame_acts s).mono (by decide)
            · exact symbolError_acts s
          · exact linkData_acts b s

/-- What a byte of the link can change (R17). -/
theorem takeLinkByte_acts (b : Byte) (s : State) : Acts linkBlocks s (takeLinkByte b s) := by
  unfold takeLinkByte
  split
  · split
    · exact linkSync_acts s
    · exact Acts.refl _ s
  · unfold syncByte
    split
    · exact setInput_link _ _
    · split
      · exact Acts.refl _ s
      · exact setInput_link _ _
  · exact sortByte_acts b s
  · exact sortByte_acts b s
  · split
    · exact linkSync_acts s
    · exact Acts.refl _ s
  · unfold gapByte
    split
    · exact Acts.refl _ s
    · split
      · exact linkSync_acts s
      · exact symbolError_acts s

theorem takeLossOfSignal_acts (s : State) : Acts frameBlocks s (takeLossOfSignal s) := by
  unfold takeLossOfSignal
  split
  · exact Acts.refl _ s
  · have h1 : ∀ e, Acts frameBlocks s (raise e s) := fun e => (raise_acts e s).mono (by decide)
    have h2 : ∀ t, Acts frameBlocks t (cutFrame t) := fun t => (cutFrame_acts t).mono (by decide)
    have h3 : ∀ t, Acts frameBlocks t (toHunt t) := fun t => (setInput_acts t _).mono (by decide)
    dsimp only
    split
    · exact (h1 _).trans ((h2 _).trans (h3 _))
    · exact (h1 _).trans (h3 _)

/-! ## Control Port -/

/-- The blocks a character of the control line may change. -/
abbrev portBlocks : List Block := [.control, .events]

theorem setFraming_acts (f : Framing) (e : Bool) (c : List Byte) (s : State) : Acts portBlocks s (setFraming f e c s) :=
  (setControl_acts _ _).mono (by decide)

theorem badFrame_acts (f : Framing) (s : State) : Acts portBlocks s (badFrame f s) :=
  (setFraming_acts _ _ _ s).trans ((count_acts _ _).mono (by decide))

theorem appendContent_acts (b : Byte) (s : State) : Acts portBlocks s (appendContent b s) := by
  unfold appendContent
  split
  · exact setFraming_acts _ _ _ s
  · exact badFrame_acts _ s

theorem offerMessage_acts (m : Message) (s : State) : Acts portBlocks s (offerMessage m s) := by
  unfold offerMessage
  split
  · exact (setControl_acts _ _).mono (by decide)
  · exact ((count_acts _ s).trans (raise_acts _ _)).mono (by decide)

theorem completeMessage_acts (s : State) : Acts portBlocks s (completeMessage s) := by
  unfold completeMessage
  dsimp only
  split
  · exact badFrame_acts _ s
  · exact (setFraming_acts _ _ _ s).trans (offerMessage_acts _ _)

/-- What a character of the control line can change (R175 to R177). -/
theorem takeCharacter_acts (ch : Byte) (b : Bool) (s : State) : Acts portBlocks s (takeCharacter ch b s) := by
  unfold takeCharacter
  split
  · split
    · exact setFraming_acts _ _ _ s
    · exact Acts.refl _ s
  · split
    · unfold assembleCharacter
      split
      · split
        · exact appendContent_acts _ s
        · exact badFrame_acts _ s
      · split
        · split
          · exact setFraming_acts _ _ _ s
          · exact badFrame_acts _ s
        · split
          · exact completeMessage_acts s
          · split
            · exact setFraming_acts _ _ _ s
            · exact appendContent_acts _ s
    · exact badFrame_acts _ s

theorem sendReply_acts (s : State) : Acts [.control] s (sendReply s) := by
  unfold sendReply
  split
  · exact Acts.refl _ s
  · exact setControl_acts _ _

theorem formReply_acts (m : Message) (st : Status) (d : List Byte) (s : State) : Acts [.control] s (formReply m st d s) :=
  setControl_acts _ _

/-- What a hand-on can change: what the owning block's action changes, and the Control Port (R178). -/
theorem handOn_only {bs : List Block} {act : List Byte → State → State × Answer}
    (h : ∀ p s, OnlyChanges bs s (act p s).1) (kind : Byte) (s : State) :
    OnlyChanges (.control :: bs) s (handOn kind act s) := by
  have hc : ∀ t u : State, Acts [.control] t u → OnlyChanges (.control :: bs) t u :=
    fun t u k => k.only.mono (by simp)
  unfold handOn
  split
  · exact OnlyChanges.refl _ s
  · rename_i m _
    split
    · split
      · have ha : OnlyChanges (.control :: bs) s (act m.payload s).1 :=
          (h m.payload s).mono fun b hb => List.mem_cons_of_mem _ hb
        unfold settleAnswer
        split
        · exact ha.trans (hc _ _ (formReply_acts _ _ _ _))
        · exact ha.trans (hc _ _ (formReply_acts _ _ _ _))
        · exact ha.trans (hc _ _ (setControl_acts _ _))
      · exact hc _ _ (formReply_acts _ _ _ s)
    · exact OnlyChanges.refl _ s

/-- A hand-on leaves the Event Unit as the owning block's action leaves it. -/
theorem handOn_events (kind : Byte) (act : List Byte → State → State × Answer) (s : State) :
    (handOn kind act s).events = s.events ∨ ∃ p, (handOn kind act s).events = (act p s).1.events := by
  unfold handOn
  split
  · exact Or.inl rfl
  · rename_i m _
    split
    · split
      · right
        refine ⟨m.payload, ?_⟩
        unfold settleAnswer
        split <;> rfl
      · exact Or.inl rfl
    · exact Or.inl rfl

end Sys2Proof.Machine
end

