-- ==== Sys2Proof/WellFormed.lean ====
section
/-! DEFINITION. Which commands the lines can carry: a chain port names a die by an index of R3. -/

namespace Sys2Proof

/-- A command is well formed when every die index it names lies in 0..110,591 (R3).  The other operands are bytes
and flags, whose types already bound them. -/
def Instr.wellFormed : Instr → Bool
  | .gapTestAnswer test _ _ => decide (test.die < Config.dieCount)
  | .liveShortReport die => decide (die < Config.dieCount)
  | .powerOn | .controlCharacter _ _ | .replySent | .unknownKind | .identify | .getStatus | .setLayout | .getLayout
  | .setParams | .getParams | .survey | .retest | .halt | .pin | .unpin | .restore | .readMap | .readTransitions
  | .readPlan | .armCapture | .disarm | .readCapture | .releaseHold | .standby | .wake | .restart | .readEvents
  | .setMask | .readCounters | .linkByte _ | .lossOfSignal | .lightRow | .passEnd | .gapEnd => true

end Sys2Proof
end

