-- ==== Sys2Proof/Tests/Slice0.lean ====
section
/-! SUPPORT. Tests, with expected values from the spec's tables and worked sequences, and for each statement with
hypotheses a state and operands that meet them. -/

namespace Sys2Proof.Tests

open Sys2Proof.Machine

/-! ## States the tests start from -/

/-- The state a command leads to. -/
def after (c : Instr) (s : State) : State :=
  match exec c s with
  | .next t => t
  | .fault _ => s
  | .refused _ => s

/-- A slot with a module FITTED. -/
def slotWith (x : DieType) (trim : Nat) : SlotLayout := { fitted := true, dieType := x, trim := trim }

/-- The cabinet of 1.8 with slot 0 loaded with trim 288 (7.9), in STANDBY. -/
def cabinet : State :=
  { State.reset with
    layout :=
      { status := .set
        record :=
          { mc := 3, mr := 2, passRate := 3840
            slots := #v[slotWith .dual 288, slotWith .dual 256, slotWith .dual 256, SlotLayout.vacant,
              slotWith .single 256, SlotLayout.vacant, slotWith .dual 320, SlotLayout.vacant] } }
    store := List.replicate 96 Row.black
    sense := { Sense.powerOn with
      modules := perSlot fun i =>
        if i = 3 ∨ i = 5 ∨ i = 7 then ModuleItem.vacant else { ModuleItem.vacant with state := .online } } }

/-- The cabinet in an ACTIVE pass of which `y` rows have been lit. -/
def passAt (y : Nat) : State := { cabinet with scan := { Scan.powerOn with display := .active, phase := .pass, rowsLit := y } }

/-- The cabinet in an ACTIVE pass. -/
def awake : State := passAt 0

/-- The cabinet in the gap of an ACTIVE pass, with these tests out and their requests sent. -/
def inGap (gap : List GapEntry) : State :=
  { cabinet with
    scan := { Scan.powerOn with display := .active, phase := .gap, rowsLit := 96 }
    sense := { cabinet.sense with
      gap := gap
      requests := perSlot fun i => (gap.map GapEntry.die).filter fun d => decide (slotOfChannel (dieChannel d) = i) } }

/-- A patrol test that is out. -/
def test (die : Nat) : GapEntry := { die := die, purpose := .patrol, outstanding := true, serves := false }

/-- A message with tag 0x77. -/
def message (kind : Byte) (payload : List Byte) : Message := { kind := kind, tag := 0x77, payload := payload }

/-- `s` with one message waiting. -/
def ask (s : State) (kind : Byte) (payload : List Byte) : State :=
  s.setControl { s.control with queue := [message kind payload] }

/-- The payload of the reply last formed. -/
def replied (s : State) : Option (List Byte) := s.control.replies.getLast?.map Reply.payload

/-- A record of source SENSED made at pass 0. -/
def record (x : RecordState) (hits passes : Nat) : DefectRecord :=
  { state := x, fault := .opened, hits := hits, passes := passes, firstPass := 0, statePass := 0, source := .sensed }

/-- `s` with the map's records replaced. -/
def withRecords (s : State) (t : Table DefectRecord) : State := s.setMap { s.map with records := t }

/-- `s` with a long command of kind `k` RUNNING. -/
def withRunning (s : State) (k : LongKind) : State :=
  setLong { LongSlot.idle with running := true, kind := k } s

/-- A message alone in the queue can be handed on. -/
theorem handing_ask (s : State) (k : Byte) (p : List Byte) (h : s.control.inHand = false)
    (r : s.control.replies.length < 4) : Handing (ask s k p) (message k p) [] := ⟨h, r, rfl⟩

/-! ## WellFormed -/

theorem test_wellFormed_last_die : (Instr.gapTestAnswer ⟨110591, 0⟩ .ok false).wellFormed = true := by decide
theorem test_wellFormed_refuses_answer : (Instr.gapTestAnswer ⟨110592, 0⟩ .ok false).wellFormed = false := by decide
theorem test_wellFormed_refuses_report : (Instr.liveShortReport 110592).wellFormed = false := by decide

/-! ## Geometry: the tables of 1.8 -/

theorem test_die_69723 :
    dieChannel 69723 = 34861 ∧ channelColour 34861 = 1 ∧ channelX 34861 = 100 ∧ channelY 34861 = 60 ∧
      slotOfChannel 34861 = 6 ∧ cabinet.layout.presentDie 69723 = true := by decide
theorem test_site_143_20_has_no_right_neighbour :
    directions.map (cabinet.layout.neighbour (channelAt 143 20 0)) =
      [some (channelAt 142 20 0), some (channelAt 143 19 0), none, some (channelAt 143 21 0)] := by decide

/-! ## Power-on and the control line -/

theorem test_powerOn_restores_defaults :
    (after .powerOn (awake.setParams { Params.defaults with w := 9 })).params.w = 5 := by decide

/-- The last character of 9.9's PIN message. -/
theorem test_controlCharacter_completes :
    (after (.controlCharacter 0xF1 true) (State.reset.setControl { ControlPort.powerOn with
      framing := .assembling, content := [0x18, 0xF0, 0x44, 0x5A, 0x00, 0x01, 0x59] })).control.queue =
      [{ kind := 0x18, tag := 0xF0, payload := [0x44, 0x5A, 0x00, 0x01] }] := by decide
/-- The escaped tag of 9.9's PIN message. -/
theorem test_controlCharacter_unescapes :
    (after (.controlCharacter 0xE0 true) (State.reset.setControl { ControlPort.powerOn with
      framing := .assembling, escape := true, content := [0x18] })).control.content = [0x18, 0xF0] := by decide
/-- 0x98 + 0xF0 + 0x00 = 0x188, so the check is 0x78 (R175, R179). -/
theorem test_replySent_frames :
    (after .replySent (State.reset.setControl { ControlPort.powerOn with
      replies := [{ kind := 0x98, tag := 0xF0, payload := [0] }] })).control.lineOut =
      [0xF0, 0x98, 0xF2, 0xE0, 0x00, 0x78, 0xF1] := by decide
theorem test_unknownKind_status : replied (after .unknownKind (ask awake 0x07 [1, 2])) = some [6] := by decide
theorem test_identify_reply :
    replied (after .identify (ask State.reset 0x01 [])) = some [0, 0x60, 0x32, 1, 0x00, 0x04, 0x00, 0x08, 64, 4, 8] := by
  decide
theorem test_getStatus_store : replied (after .getStatus (ask cabinet 0x02 [1])) = some [0, 1, 1, 96, 0, 0] := by
  decide

/-- The payload of 1.8's SET_LAYOUT, with the fitted code of slot 7. -/
def layoutPayload (slot7 : Byte) : List Byte :=
  [3, 2, 1, 0, 0, 1, 1, 0, 0, 1, 1, 0, 0, 1, 0, 0, 0, 1, 1, 1, 0, 1, 0, 0, 0, 1, 1, 0, 84, 1, slot7, 0, 0, 1, 160, 15]

theorem test_setLayout_clamps :
    ((after .setLayout (ask cabinet 0x03 (layoutPayload 0))).layout.record.slots[6].trim,
      replied (after .setLayout (ask cabinet 0x03 (layoutPayload 0))) |>.map (List.take 4)) =
      (320, some [0, 1, 3, 2]) := by decide
theorem test_setLayout_refuses_slot_7 :
    replied (after .setLayout (ask cabinet 0x03 (layoutPayload 1))) = some [3] := by decide
theorem test_getLayout_unset : replied (after .getLayout (ask State.reset 0x04 [])) = some [0, 0] := by decide
/-- 9.9, "A clamped parameter set". -/
theorem test_setParams_clamps :
    replied (after .setParams (ask awake 0x05 [1, 9, 120, 0, 100, 0, 0])) = some [0, 1, 2, 2, 100, 1, 100, 0, 0] := by
  decide
theorem test_getParams_defaults :
    replied (after .getParams (ask State.reset 0x06 [])) = some [0, 5, 3, 75, 4, 0x00, 0x0F, 0] := by decide

/-! ## Long commands -/

/-- 5.7, the survey. -/
theorem test_survey_starts :
    ((after .survey (ask awake 0x10 [10, 20, 11, 20, 2, 3])).sense.long.cursor,
      replied (after .survey (ask awake 0x10 [10, 20, 11, 20, 2, 3]))) = (some 23102, some [0, 10, 20, 11, 20, 0]) := by
  decide +kernel
theorem test_retest_begins :
    (Table.fetch (after .retest (ask (withRecords awake [(23102, record .confirmed 0 0), (23103, record .suspect 2 3)])
      0x11 [10, 20, 11, 20, 2, 3])).map.records 23102).map DefectRecord.state = some .retest := by decide
theorem test_halt_idle : replied (after .halt (ask State.reset 0x12 [])) = some [0, 0, 0, 0] := by decide

/-! ## Records -/

/-- 1.8: every die of site (150, 10) is refused. -/
theorem test_pin_outside_grid : replied (after .pin (ask awake 0x18 [0x84, 0x30, 0, 0])) = some [3] := by decide
theorem test_pin_good :
    (Table.fetch (after .pin (ask awake 0x18 [0x44, 0x5A, 0, 1])).map.records 23108).map DefectRecord.state =
      some .pinnedGood := by decide
theorem test_unpin_unset : replied (after .unpin (ask State.reset 0x19 [0, 0, 0])) = some [5] := by decide
/-- Die A of channel 11,554 dead on a DUAL slot: its spare (R135). -/
theorem test_restore_stages_spare :
    (after .restore (ask awake 0x1A [0x44, 0x5A, 0, 2])).plan.selectOf 11554 = .b := by decide
/-- 6.9, "Walking the map": the second request. -/
theorem test_readMap_second_walk :
    (replied (after .readMap (ask (withRecords awake ([30, 5940, 5941, 23102, 69696, 100000].map fun d =>
      (d, record .confirmed 0 0))) 0x20 [0x3F, 0x5A, 0]))).map (List.take 9) =
      some [0, 6, 0, 0xFF, 0xFF, 0xFF, 0x40, 0x10, 0x01] := by decide
theorem test_readTransitions_removes_six :
    (after .readTransitions (ask (awake.setMap { awake.map with
      queue := List.replicate 7 { kind := .pinned, die := 30, fault := .none, pass := 0 } }) 0x21 [])).map.queue.length =
      1 := by decide

/-! ## The plan: the case of 7.9 -/

/-- An entry of the Boost Table with one boost. -/
def boost (d : Direction) (share : Nat) : BoostEntry := BoostEntry.empty.with d (some share)

/-- The neighbourhood of 7.9 in the gap of pass 8200, with the due test of die 23,103 out. -/
def beforeLoss : State :=
  let select : Table Select := [(10975, .b), (11551, .b), (11554, .off)]
  let boosts : Table BoostEntry := [(10978, boost .down 48), (11551, boost .right 48), (11557, boost .left 48), (12130, boost .up 48)]
  let s := withRecords (inGap [test 23103])
    [(21950, record .confirmed 0 0), (23102, record .confirmed 0 0), (23103, record .suspect 2 3),
      (23108, record .confirmed 0 0), (23109, record .confirmed 0 0)]
  { s with
    plan := { Plan.clear with select := select, boost := boosts }
    scan := { s.scan with liveSelect := select, liveBoost := boosts, passNumber := 8200 } }

theorem test_loss_of_spare_boosts :
    (after (.gapTestAnswer ⟨23103, 0⟩ .opened false) beforeLoss).plan.boost =
      [(10975, boost .down 64), (10978, boost .down 64), (11548, boost .right 64), (11557, boost .left 64),
        (12127, boost .up 64), (12130, boost .up 64)] := by decide
theorem test_loss_of_spare_marks :
    (after (.gapTestAnswer ⟨23103, 0⟩ .opened false) beforeLoss).plan.edited.keys =
      [10975, 10978, 11548, 11551, 11557, 12127, 12130] := by decide
/-- Channel 10,975: both selects B, no mark, no entry; channel 11,551 closes the reply. -/
theorem test_readPlan_first_entry :
    (replied (after .readPlan (ask beforeLoss 0x22 [0, 0, 0]))).map (List.take 8) =
      some [0, 0xE3, 0x2A, 0, 0xDF, 0x2A, 5, 0] := by decide

/-! ## Capture: the sequence of 8.8 -/

theorem test_armCapture_reply :
    replied (after .armCapture (ask awake 0x28 [3, 0, 0, 0, 47, 47, 2, 2, 1, 1])) = some [0, 0, 0, 0] := by decide
/-- Combine M1 with a place given is refused (R160). -/
theorem test_armCapture_refuses_extra_matcher :
    replied (after .armCapture (ask awake 0x28 [3, 0, 0, 0, 47, 47, 2, 0, 1, 1])) = some [3] := by decide
theorem test_disarm_reply :
    replied (after .disarm (ask (awake.setCapture { Capture.powerOn with state := .armed, held := 1 }) 0x29 [])) =
      some [0, 1, 1] := by decide
theorem test_readCapture_empty : replied (after .readCapture (ask awake 0x2A [])) = some [0, 0, 0, 0] := by decide

/-- Channel 11,554 deferred under a hold of slot 0, its die A confirmed. -/
def underHold : State :=
  let s := withRecords awake [(23108, record .confirmed 0 0)]
  { s with plan := { Plan.clear with deferred := [(11554, ())] }, capture := { Capture.powerOn with held := 1 } }

theorem test_releaseHold_stages :
    ((after .releaseHold (ask underHold 0x2B [])).plan.selectOf 11554,
      replied (after .releaseHold (ask underHold 0x2B []))) = (.b, some [0, 1]) := by decide

/-! ## Display -/

theorem test_standby_waits :
    ((after .standby (ask awake 0x30 [])).control.inHand, (after .standby (ask awake 0x30 [])).scan.standby) =
      (true, .requestedOwed) := by decide
theorem test_wake_unset : replied (after .wake (ask State.reset 0x31 [])) = some [2] := by decide
theorem test_wake_begins :
    ((after .wake (ask cabinet 0x31 [])).scan.wakingLeft, replied (after .wake (ask cabinet 0x31 []))) =
      (15, some [0, 1, 0]) := by decide
theorem test_restart_settles : (after .restart (ask awake 0x32 [])).sense.modules[6].settle = 8 := by decide

/-- The live tables and the picture of 4.10. -/
def concealed (y : Nat) : State :=
  let s := passAt y
  { s with
    scan := { s.scan with
      liveSelect := [(10975, .b), (11551, .off), (11554, .off)]
      liveBoost := [(10975, boost .down 64), (11548, boost .right 64), (12127, boost .up 64)] }
    store := s.store.mapIdx fun k r =>
      if k = 19 then { r with slot0 := [(31, 700)] }
      else if k = 20 then { r with slot0 := [(28, 800), (31, 600)] }
      else if k = 21 then { r with slot0 := [(31, 1000)] } else r }

theorem test_lightRow_spare :
    (after .lightRow (concealed 19)).scan.ports[0][31]? = some { channel := 10975, value := 61200, lit := some .b } := by
  decide
theorem test_lightRow_clamps :
    ((after .lightRow (concealed 21)).scan.ports[0][31]?, (after .lightRow (concealed 21)).scan.clip) =
      (some { channel := 12127, value := 65535, lit := some .a }, true) := by decide
/-- 5.7, gap g1: the patrol at die 69,696 with B = 4, its four requests on chain port 6. -/
theorem test_passEnd_patrols :
    let t := after .passEnd ((passAt 96).setSense { awake.sense with patrol := 69696 })
    (t.sense.requests[6], t.sense.requests[4], t.sense.patrol) = ([69696, 69697, 69698, 69699], [], 69700) := by decide
/-- 9.9: the owed reply of a STANDBY is formed when its pass ends. -/
theorem test_passEnd_pays_reply :
    replied (after .passEnd (after .standby (ask (passAt 96) 0x30 []))) = some [0, 0] := by decide
/-- 5.7, the end of gap g1. -/
theorem test_gapEnd_module_dark :
    ((after .gapEnd (inGap [test 69696, test 69697, test 69698, test 69699])).moduleState 6,
      (after .gapEnd (inGap [test 69696, test 69697, test 69698, test 69699])).events.attention) =
      (.dark, true) := by decide
/-- R61: the end of the gap of the 16th WAKING pass. -/
theorem test_gapEnd_woken :
    (after .gapEnd ((inGap []).setScan { (inGap []).scan with display := .waking })).scan.display = .active := by
  decide
/-- 4.10, "A short cut during a pass". -/
theorem test_liveShort_cuts :
    ((after (.liveShortReport 5940) awake).scan.selectOf 2970, (after (.liveShortReport 5940) awake).plan.selectOf 2970,
      (after (.liveShortReport 5940) awake).plan.edited.keys) = (.off, .b, [2970]) := by decide

/-! ## The input link -/

/-- The cabinet with a frame in reception, at a place in a block for row 7. -/
def inBlock (p : BlockPosition) (group : List Byte) : State :=
  awake.setInput { Receiver.powerOn with
    state := .rows, firstFrame := false, position := p, blockRow := 7, blockSum := 7, group := group }

theorem test_linkByte_finds_sync :
    (after (.linkByte 0x5A) (awake.setInput { Receiver.powerOn with state := .sync })).input.state = .header := by
  decide
/-- 1 + 2·1024 + 3·1024² + 4·1024³ has the bytes 01 08 30 00 01 (R26). -/
theorem test_linkByte_unpacks :
    ((after (.linkByte 0x01) (inBlock (.inData 4) [0x01, 0x08, 0x30, 0x00])).store[7]?.map Row.slot1) =
      some [(0, 1), (1, 2), (2, 3), (3, 4)] := by decide
theorem test_lossOfSignal_raises :
    (after .lossOfSignal (inBlock .awaitingIndex [])).events.pends .inputLost = true := by decide

/-! ## Events and counters: the sequence of 10.7 -/

/-- MODULE_DARK, CONFIRMED and TRANSITIONS are set. -/
def threeEvents : State :=
  awake.setEvents (((EventUnit.powerOn.raised .moduleDark).raised .confirmed).raised .transitions)

theorem test_readEvents_reply :
    replied (after .readEvents (ask threeEvents 0x38 [0, 2])) = some [0, 0x09, 0x02, 0x1F, 0x00, 3] := by decide
theorem test_setMask_asserts :
    replied (after .setMask (ask (after .readEvents (ask threeEvents 0x38 [0, 2])) 0x39 [0, 0])) = some [0, 0, 0, 1] := by
  decide
theorem test_readCounters_refuses_two : replied (after .readCounters (ask awake 0x3A [2])) = some [3] := by decide

/-! ## Witnesses: a state and operands that meet each statement's hypotheses, clause by clause -/

theorem witness_StepTakesFrontCommand :
    { awake with pending := [.lightRow, .passEnd] }.pending = .lightRow :: [.passEnd] ∧ awake.pending = [] := ⟨rfl, rfl⟩

theorem witness_OnlyOwnersChangeBlocks : exec .lossOfSignal awake = .next awake := rfl

/-- A port with a message in assembly and `n` waiting. -/
def port (f : Framing) (e : Bool) (c : List Byte) (n : Nat) : ControlPort :=
  { ControlPort.powerOn with framing := f, escape := e, content := c, queue := List.replicate n (message 0x01 []) }

/-- IDLE; no escape pending with content too short, ill summed, and complete with room and without; escape pending. -/
theorem witness_CharactersAreFramedAndQueued :
    (port .idle false [] 0).framing = .idle ∧
      ((port .assembling false [1, 2] 0).framing = .assembling ∧ (port .assembling false [1, 2] 0).escape = false ∧
        (port .assembling false [1, 2] 0).content.length < 3) ∧
      ((port .assembling false [1, 2, 3] 0).content.length = 3 ∧ sumOf [1, 2, 3] ≠ 0) ∧
      ((port .assembling false [1, 2, 0xFD] 3).content = 1 :: 2 :: [] ++ [0xFD] ∧ sumOf [1, 2, 0xFD] = 0 ∧
        (port .assembling false [1, 2, 0xFD] 3).queue.length < 4 ∧ 4 ≤ (port .assembling false [1, 2, 0xFD] 4).queue.length) ∧
      ((port .assembling true [1] 0).framing = .assembling ∧ (port .assembling true [1] 0).escape = true) ∧
      ∀ b ∈ ([0xE0, 0xE1, 0xE2, 0xF0, 0xF1, 0xF2] : List Byte), 0x00 ≠ b :=
  ⟨rfl, by decide, by decide, by decide, ⟨rfl, rfl⟩, by decide⟩

/-- The PIN of 9.9, and a payload of 60 bytes with three messages waiting. -/
theorem witness_FramedMessageIsReceived :
    (State.reset.control.framing = .idle ∧ State.reset.control.queue.length < 4 ∧
      sumOf (0x18 :: 0xF0 :: [0x44, 0x5A, 0x00, 0x01] ++ [0x59]) = 0) ∧
    (({ ControlPort.powerOn with queue := List.replicate 3 (message 0x01 []) } : ControlPort).queue.length < 4 ∧
      (List.replicate 60 (0 : Byte)).length ≤ 60 ∧ sumOf (1 :: 2 :: List.replicate 60 0 ++ [0xFD]) = 0) := by
  decide +kernel

theorem witness_ReplySentLeavesBuffer :
    ({ ControlPort.powerOn with replies := [{ kind := 0x81, tag := 0, payload := [0] }] } : ControlPort).replies =
      { kind := 0x81, tag := 0, payload := [0] } :: [] ∧ State.reset.control.replies = [] := ⟨rfl, rfl⟩

theorem witness_KindAndLengthJudgedFirst :
    (Handing (ask awake 0x07 []) (message 0x07 []) [] ∧ ∀ e ∈ messageKinds, e.2.1 ≠ (message 0x07 []).kind) ∧
    (Handing (ask awake 0x38 [1]) (message 0x38 [1]) [] ∧ (Instr.readEvents, (0x38 : Byte), [0, 2]) ∈ messageKinds ∧
      (message 0x38 [1]).payload.length ∉ [0, 2]) :=
  ⟨⟨handing_ask _ _ _ rfl (by decide), by decide⟩, handing_ask _ _ _ rfl (by decide), by decide, by decide⟩

theorem witness_RefusalChangesNothing :
    Handing (ask State.reset 0x31 []) (message 0x31 []) [] ∧ (Instr.wake, (0x31 : Byte), [0]) ∈ messageKinds ∧
      exec .wake (ask State.reset 0x31 []) = .next (after .wake (ask State.reset 0x31 [])) ∧
      Answered (ask State.reset 0x31 []) (after .wake (ask State.reset 0x31 [])) (message 0x31 []) [] (2 :: []) ∧
      (2 : Byte) ≠ 0 :=
  ⟨handing_ask _ _ _ rfl (by decide), by decide, rfl, rfl, by decide⟩

theorem witness_HandOnNeedsItsMessage :
    (after .standby (ask awake 0x30 [])).control.inHand = true ∧
    4 ≤ ({ ControlPort.powerOn with replies := List.replicate 4 { kind := 0x81, tag := 0, payload := [0] } } :
      ControlPort).replies.length ∧
    (∀ m, (ask awake 0x01 []).control.queue.head? = some m → m.kind ≠ 0x02) ∧
    ∀ m, (ask awake 0x01 []).control.queue.head? = some m → ∃ e ∈ messageKinds, e.2.1 = m.kind := by
  refine ⟨by decide, by decide, ?_, ?_⟩ <;> intro m h <;> cases h <;> decide

/-- A set that changes F, and one that keeps it. -/
theorem witness_SetParamsStoresClamped :
    Handing (ask awake 0x05 [1, 9, 120, 0, 100, 0, 0]) (message 0x05 [1, 9, 120, 0, 100, 0, 0]) [] ∧
      min 100 (120 : Byte).toNat ≠ awake.params.f ∧ min 100 (75 : Byte).toNat = awake.params.f :=
  ⟨handing_ask _ _ _ rfl (by decide), by decide, by decide⟩

theorem witness_SettingsAreReported :
    Handing (ask State.reset 0x04 []) (message 0x04 []) [] ∧ State.reset.layout.status = .unset ∧
      Handing (ask cabinet 0x04 []) (message 0x04 []) [] ∧ cabinet.layout.status = .set ∧
      Handing (ask awake 0x06 []) (message 0x06 []) [] ∧ Handing (ask awake 0x01 []) (message 0x01 []) [] :=
  ⟨handing_ask _ _ _ rfl (by decide), rfl, handing_ask _ _ _ rfl (by decide), rfl, handing_ask _ _ _ rfl (by decide),
    handing_ask _ _ _ rfl (by decide)⟩

/-- Every section code can be asked, in every state; the LONG section's three kinds. -/
theorem witness_StatusSectionsAreReported :
    (∀ b ∈ ([0, 1, 2, 3, 4, 5, 6, 7, 8] : List Byte), Handing (ask awake 0x02 [b]) (message 0x02 [b]) []) ∧
      7 < (8 : Byte).toNat ∧ awake.sense.long.kind = .none ∧ (withRunning awake .survey).sense.long.kind = .survey ∧
      (withRunning awake .retest).sense.long.kind = .retest :=
  ⟨fun _ _ => handing_ask _ _ _ rfl (by decide), by decide, rfl, rfl, rfl⟩

theorem witness_SetLayoutAccepted :
    let p := layoutPayload 0
    Handing (ask cabinet 0x03 p) (message 0x03 p) [] ∧ p.length = 36 ∧ cabinet.scan.display = .standby ∧
      1 ≤ byteAt p 0 ∧ byteAt p 0 ≤ 4 ∧ 1 ≤ byteAt p 1 ∧ byteAt p 1 ≤ 2 ∧
      ∀ i : Fin 8, byteAt p (2 + 4 * i) = 0 ∨
        (byteAt p (2 + 4 * i) = 1 ∧ byteAt p (3 + 4 * i) ≤ 1 ∧ i % 4 < byteAt p 0 ∧ i / 4 < byteAt p 1) :=
  ⟨handing_ask _ _ _ rfl (by decide), by decide, rfl, by decide, by decide, by decide, by decide, by decide⟩

theorem witness_RefusalsComeInOrder :
    (Handing (ask awake 0x03 (layoutPayload 0)) (message 0x03 (layoutPayload 0)) [] ∧ awake.scan.display ≠ .standby) ∧
    (Handing (ask cabinet 0x03 (layoutPayload 1)) (message 0x03 (layoutPayload 1)) [] ∧
      byteAt (layoutPayload 1) 30 ≠ 0 ∧ ¬ 7 % 4 < byteAt (layoutPayload 1) 0) ∧
    (Handing (ask awake 0x10 [0, 0, 144, 0, 1, 1]) (message 0x10 [0, 0, 144, 0, 1, 1]) [] ∧ awake.layout.status = .set ∧
      State.reset.layout.status = .unset ∧ cabinet.scan.display = .standby ∧
      (withRunning awake .survey).sense.long.running = true ∧ awake.sense.long.running = false ∧
      ¬ (144 : Byte).toNat < 48 * awake.layout.record.mc) ∧
    (Handing (ask awake 0x18 [0x84, 0x30, 0, 0]) (message 0x18 [0x84, 0x30, 0, 0]) [] ∧
      awake.layout.presentDie 12420 = false ∧ awake.layout.presentDie 23108 = true ∧ (2 : Byte) ≠ 0 ∧ (2 : Byte) ≠ 1) := by
  refine ⟨⟨handing_ask _ _ _ rfl (by decide), by decide⟩, ⟨handing_ask _ _ _ rfl (by decide), by decide⟩,
    ⟨handing_ask _ _ _ rfl (by decide), by decide⟩, handing_ask _ _ _ rfl (by decide), by decide⟩

/-- 5.7's scope, and one whose far corner lies outside the grid. -/
theorem witness_SurveyStarts :
    Handing (ask awake 0x10 [143, 95, 255, 255, 2, 3]) (message 0x10 [143, 95, 255, 255, 2, 3]) [] ∧
      awake.layout.status = .set ∧ awake.scan.display ≠ .standby ∧ awake.sense.long.running = false ∧
      (143 : Byte) ≤ 255 ∧ (95 : Byte) ≤ 255 ∧ (143 : Byte).toNat < 48 * awake.layout.record.mc ∧
      (95 : Byte).toNat < 48 * awake.layout.record.mr ∧ (2 : Byte).truncate 3 ≠ 0#3 ∧ (3 : Byte).truncate 2 ≠ 0#2 :=
  ⟨handing_ask _ _ _ rfl (by decide), by decide⟩

/-- The cabinet awake with two records, one of which a RETEST takes. -/
def twoRecords : State := withRecords awake [(23102, record .confirmed 0 0), (23103, record .retest 2 3)]

theorem twoRecords_canonical (k : Byte) (p : List Byte) : TablesCanonical (ask twoRecords k p) := by
  show TablesCanonical twoRecords
  unfold TablesCanonical; decide

theorem witness_RetestTurnsRecords :
    let s := ask twoRecords 0x11 [10, 20, 11, 20, 2, 3]
    Handing s (message 0x11 [10, 20, 11, 20, 2, 3]) [] ∧ TablesCanonical s ∧ s.layout.status = .set ∧
      s.scan.display ≠ .standby ∧ s.sense.long.running = false ∧ (10 : Byte) ≤ 11 ∧ (20 : Byte) ≤ 20 ∧
      (10 : Byte).toNat < 48 * s.layout.record.mc ∧ (20 : Byte).toNat < 48 * s.layout.record.mr ∧ s.map.queue.length ≤ 64 :=
  ⟨handing_ask _ _ _ rfl (by decide), twoRecords_canonical _ _, by decide⟩

theorem witness_HaltEndsSurvey :
    Handing (ask awake 0x12 []) (message 0x12 []) [] ∧ awake.sense.long.running = false ∧
      Handing (ask (withRunning awake .survey) 0x12 []) (message 0x12 []) [] ∧
      (withRunning awake .survey).sense.long.running = true ∧ (withRunning awake .survey).sense.long.kind = .survey :=
  ⟨handing_ask _ _ _ rfl (by decide), rfl, handing_ask _ _ _ rfl (by decide), rfl, rfl⟩

theorem witness_HaltReturnsRetestRecords :
    let s := ask (withRunning twoRecords .retest) 0x12 []
    Handing s (message 0x12 []) [] ∧ s.sense.long.running = true ∧ s.sense.long.kind = .retest ∧ TablesCanonical s ∧
      s.map.queue.length ≤ 64 :=
  ⟨handing_ask _ _ _ rfl (by decide), rfl, rfl, twoRecords_canonical 0x12 [], by decide⟩

/-- A die with no record, and a die with a record of another and of the pinned state; a RETEST record, alone and with another. -/
theorem witness_PinSetsRecord :
    let s := ask (withRecords awake [(23102, record .confirmed 0 0), (23103, record .pinnedDead 0 0)]) 0x18 [0x44, 0x5A, 0, 0]
    let alone : Table DefectRecord := [(23108, record .retest 0 0)]
    let two : Table DefectRecord := [(23108, record .retest 0 0), (23109, record .retest 0 0)]
    (∀ t ∈ [alone, two], Table.canonical t = true ∧ Table.fetch t 23108 = some (record .retest 0 0)) ∧
      (alone.any fun e => decide (e.1 ≠ 23108 ∧ e.2.state = .retest)) = false ∧
      (two.any fun e => decide (e.1 ≠ 23108 ∧ e.2.state = .retest)) = true ∧
    Handing s (message 0x18 [0x44, 0x5A, 0, 0]) [] ∧ s.layout.status = .set ∧ s.layout.presentDie 23108 = true ∧
      s.map.queue.length ≤ 64 ∧ Table.fetch s.map.records 23108 = none ∧ s.map.records.length < 1024 ∧
      Table.fetch s.map.records 23102 = some (record .confirmed 0 0) ∧ (record .confirmed 0 0).state ≠ .pinnedDead ∧
      Table.fetch s.map.records 23103 = some (record .pinnedDead 0 0) ∧ s.dieDead 23108 ≠ decide ((0 : Byte) = 0) ∧
      s.dieDead 23102 = decide ((0 : Byte) = 0) ∧ s.capture.state ≠ .armed ∧ s.capture.held = 0 :=
  ⟨by decide, by decide, by decide, handing_ask _ _ _ rfl (by decide), by decide⟩

/-- Channel 11,554 in a DUAL slot with its spare alive and, with a record for it, dead; channel 35,136 in a SINGLE slot. -/
theorem witness_DeadDieIsReplanned :
    let p : List Byte := [0x44, 0x5A, 0, 0]
    let q := ask (withRecords awake [(23109, record .confirmed 0 0)]) 0x18 p
    Handing (ask awake 0x18 p) (message 0x18 p) [] ∧ Handing q (message 0x18 p) [] ∧
      (0x44 : Byte).toNat + 256 * (0x5A : Byte).toNat = 2 * 11554 ∧ awake.layout.status = .set ∧
      awake.layout.presentDie (2 * 11554) = true ∧ awake.capture.held = 0 ∧ awake.capture.state ≠ .armed ∧
      awake.dieDead (2 * 11554) = false ∧ awake.plan.selectOf 11554 = .a ∧ awake.map.records.length < 1024 ∧
      awake.layout.dieTypeAt 11554 = .dual ∧ awake.dieDead 23109 = false ∧ q.dieDead 23109 = true ∧
      Handing (ask awake 0x18 [0x80, 0x12, 1, 0]) (message 0x18 [0x80, 0x12, 1, 0]) [] ∧
      (0x80 : Byte).toNat + 256 * (0x12 : Byte).toNat + 65536 * (1 : Byte).toNat = 2 * 35136 ∧
      awake.layout.presentDie (2 * 35136) = true ∧ awake.dieDead (2 * 35136) = false ∧ awake.plan.selectOf 35136 = .a ∧
      awake.layout.dieTypeAt 35136 = .single :=
  ⟨handing_ask _ _ _ rfl (by decide), handing_ask _ _ _ rfl (by decide), by decide, rfl, by decide, rfl, by decide, by decide,
    by decide, by decide, by decide, by decide, by decide, handing_ask _ _ _ rfl (by decide), by decide⟩

/-- Records in state `x` for the dies 0 to 1023. -/
def manyRecords (x : RecordState) : Table DefectRecord := (List.range 1024).map fun d => (d, record x 0 0)

theorem manyRecords_canonical (x : RecordState) : Table.canonical (manyRecords x) = true := by
  simp [manyRecords, Table.canonical, List.pairwise_map, List.pairwise_lt_range]

theorem manyRecords_fetch (x : RecordState) (d : Nat) (h : 1024 ≤ d) : Table.fetch (manyRecords x) d = none := by
  have key : ∀ (l : List Nat), (∀ k ∈ l, k < 1024) → Table.fetch (l.map fun d => (d, record x 0 0)) d = none := by
    intro l
    induction l with
    | nil => intro _; rfl
    | cons a l ih =>
      intro hl
      have ha := hl a (by simp)
      simp only [List.map_cons, Table.fetch]
      rw [if_neg (by omega), ih fun k hk => hl k (by simp [hk])]
  exact key _ fun k hk => List.mem_range.mp hk

theorem manyRecords_state (x : RecordState) (e : Nat × DefectRecord) (h : e ∈ manyRecords x) : e.2.state = x := by
  simp only [manyRecords, List.mem_map] at h
  obtain ⟨d, _, rfl⟩ := h
  rfl

theorem manyRecords_mem (x : RecordState) : (0, record x 0 0) ∈ manyRecords x := by
  simp [manyRecords]

/-- The hypotheses about a PIN, a RESTORE and an answer for die 23,108, from what they say of the map. -/
theorem full_map_meets (t : Table DefectRecord) (hc : Table.canonical t = true) (hn : Table.fetch t 23108 = none)
    (hl : t.length = 1024) :
    let s := fun k => ask (withRecords (inGap [test 23108]) t) k [0x44, 0x5A, 0, 1]
    ∀ k ∈ ([0x18, 0x1A] : List Byte), Handing (s k) (message k [0x44, 0x5A, 0, 1]) [] ∧ (s k).layout.status = .set ∧
      (s k).layout.presentDie 23108 = true ∧ TablesCanonical (s k) ∧ (s k).map.queue.length ≤ 64 ∧
      Table.fetch (s k).map.records 23108 = none ∧ (s k).map.records.length = 1024 ∧ test 23108 ∈ (s k).sense.gap ∧
      HandsOn (s k) 23108 .opened false ∧ HandsOn (s k) 23108 .shorted true ∧ ParamsInRange (s k) := by
  have h : TablesCanonical (inGap [test 23108]) := by unfold TablesCanonical; decide
  have present : (inGap []).layout.presentDie 23108 = true := by decide
  have heard : HandsOn (inGap [test 23108]) 23108 .opened false ∧ HandsOn (inGap [test 23108]) 23108 .shorted true := by
    unfold HandsOn; decide
  have ranges : ParamsInRange (inGap [test 23108]) := by unfold ParamsInRange; decide
  exact fun k _ => ⟨handing_ask _ _ _ rfl (Nat.zero_lt_succ _), rfl, present, ⟨hc, h.2⟩, Nat.zero_le _, hn, hl,
    List.mem_singleton.mpr rfl, heard.1, heard.2, ranges⟩

/-- A full map with no SUSPECT record, and one of SUSPECT records alone; a lit die in a pass with the latter. -/
theorem witness_FullMapEvicts :
    (∀ x, let s := fun k => ask (withRecords (inGap [test 23108]) (manyRecords x)) k [0x44, 0x5A, 0, 1]
      ∀ k ∈ ([0x18, 0x1A] : List Byte), Handing (s k) (message k [0x44, 0x5A, 0, 1]) [] ∧ (s k).layout.status = .set ∧
        (s k).layout.presentDie 23108 = true ∧ TablesCanonical (s k) ∧ (s k).map.queue.length ≤ 64 ∧
        Table.fetch (s k).map.records 23108 = none ∧ (s k).map.records.length = 1024 ∧ test 23108 ∈ (s k).sense.gap ∧
        HandsOn (s k) 23108 .opened false ∧ HandsOn (s k) 23108 .shorted true ∧ ParamsInRange (s k)) ∧
    (∀ e ∈ manyRecords .confirmed, e.2.state ≠ .suspect) ∧ (∃ e ∈ manyRecords .suspect, e.2.state = .suspect) ∧
    (inGap []).capture.held = 0 ∧ (inGap []).capture.state ≠ .armed ∧
    (awake.scan.display = .active ∧ awake.scan.phase = .pass ∧ awake.layout.presentDie 23108 = true ∧
      awake.scan.selectOf (dieChannel 23108) = (if 23108 % 2 = 1 then .b else .a)) ∧
    Table.fetch (manyRecords .suspect) 23108 = none ∧ (manyRecords .suspect).length = 1024 ∧
      TablesCanonical (withRecords awake (manyRecords .suspect)) := by
  have lit : awake.scan.display = .active ∧ awake.scan.phase = .pass ∧ awake.layout.presentDie 23108 = true ∧
      awake.scan.selectOf (dieChannel 23108) = (if 23108 % 2 = 1 then .b else .a) := by decide
  have h : TablesCanonical awake := by unfold TablesCanonical; decide
  have in_order : ∀ t, Table.canonical t = true → TablesCanonical (withRecords awake t) := fun _ ht => ⟨ht, h.2⟩
  exact ⟨fun x => full_map_meets (manyRecords x) (manyRecords_canonical x) (manyRecords_fetch x 23108 (by decide))
      (by simp [manyRecords]),
    fun e he => by rw [manyRecords_state .confirmed e he]; decide, ⟨_, manyRecords_mem .suspect, rfl⟩, rfl, by decide, lit,
    manyRecords_fetch _ 23108 (by decide), by simp [manyRecords], in_order _ (manyRecords_canonical _)⟩

theorem witness_UnpinRemovesRecord :
    let s := ask (withRecords awake [(23102, record .confirmed 0 0), (23103, record .pinnedDead 0 0),
      (23108, record .pinnedGood 0 0)]) 0x19 [0x44, 0x5A, 0]
    Handing s (message 0x19 [0x44, 0x5A, 0]) [] ∧ s.map.queue.length ≤ 64 ∧ State.reset.layout.status = .unset ∧
      s.layout.status = .set ∧ s.layout.presentDie 12420 = false ∧ Table.fetch s.map.records 23109 = none ∧
      s.layout.presentDie 23109 = true ∧ Table.fetch s.map.records 23102 = some (record .confirmed 0 0) ∧
      Table.fetch s.map.records 23103 = some (record .pinnedDead 0 0) ∧
      Table.fetch s.map.records 23108 = some (record .pinnedGood 0 0) ∧ s.capture.held = 0 ∧ s.capture.state ≠ .armed :=
  ⟨handing_ask _ _ _ rfl (by decide), by decide⟩

theorem witness_RestoreLoadsRecord :
    let s := ask (withRecords awake [(23102, record .confirmed 0 0), (23103, record .suspect 1 1), (23108, record .retest 0 0),
      (23109, record .pinnedGood 0 0)]) 0x1A [0x3E, 0x5A, 0, 2]
    Handing s (message 0x1A [0x3E, 0x5A, 0, 2]) [] ∧ s.layout.status = .set ∧ s.layout.presentDie 23102 = true ∧
      s.map.queue.length ≤ 64 ∧ Table.fetch s.map.records 23096 = none ∧ s.map.records.length < 1024 ∧
      Table.fetch s.map.records 23102 = some (record .confirmed 0 0) ∧
      Table.fetch s.map.records 23103 = some (record .suspect 1 1) ∧
      Table.fetch s.map.records 23108 = some (record .retest 0 0) ∧ s.dieDead 23108 = true ∧
      Table.fetch s.map.records 23109 = some (record .pinnedGood 0 0) ∧ s.dieDead 23096 = false ∧ s.dieDead 23103 = false ∧
      s.capture.state ≠ .armed ∧ s.capture.held = 0 :=
  ⟨handing_ask _ _ _ rfl (by decide), by decide⟩

/-- The last index, and the first that is refused. -/
theorem witness_ReadMapReports :
    Handing (ask twoRecords 0x20 [0xFF, 0xAF, 1]) (message 0x20 [0xFF, 0xAF, 1]) [] ∧
      (0xFF : Byte).toNat + 256 * (0xAF : Byte).toNat + 65536 * (1 : Byte).toNat ≤ 110591 ∧
      110591 < (0x00 : Byte).toNat + 256 * (0xB0 : Byte).toNat + 65536 * (1 : Byte).toNat :=
  ⟨handing_ask _ _ _ rfl (by decide), by decide⟩

theorem witness_ReadTransitionsTakesOldest : Handing (ask awake 0x21 []) (message 0x21 []) [] :=
  handing_ask _ _ _ rfl (by decide)

/-- The last channel, and the first index that is refused. -/
theorem witness_ReadPlanReports :
    Handing (ask beforeLoss 0x22 [0xFF, 0xD7, 0]) (message 0x22 [0xFF, 0xD7, 0]) [] ∧
      (0xFF : Byte).toNat + 256 * (0xD7 : Byte).toNat ≤ 55295 ∧ 55295 < (0x00 : Byte).toNat + 256 * (0xD8 : Byte).toNat :=
  ⟨handing_ask _ _ _ rfl (by decide), by decide⟩

/-- The neighbourhood of 7.9, and a full table of 2048 entries; a round that recomputes the channel lost there, and the same
round with slot 0 held; a re-derived channel that goes to OFF, one that leaves OFF, one that takes its spare and one that is
frozen. -/
theorem witness_RecomputePlacesShares :
    let frozen := fun (s : State) (n : Nat) => s.recomputeFrozen n = true
    let held := beforeLoss.setCapture { Capture.powerOn with held := 1 }
    let changed := withRecords beforeLoss [(23102, record .confirmed 0 0), (23103, record .confirmed 0 0)]
    Table.canonical beforeLoss.plan.boost = true ∧
      (((List.range 2048).map fun n => (n, boost .left 48)).length = 2048 ∧
        Table.canonical ((List.range 2048).map fun n => (n, boost .left 48)) = true) ∧
      beforeLoss.capture.held = 0 ∧ Table.canonical beforeLoss.plan.shortfall = true ∧
      (∀ n, n ∈ [11554] ↔ n ∈ [11554, 11551] ∧ beforeLoss.plan.selectOf n = .off ∧ ¬ frozen beforeLoss n) ∧
      (∀ n, n ∈ [] ↔ IndexSet.has (recompute 11554 beforeLoss).plan.shortfall n = true ∧
        beforeLoss.plan.selectOf n = .off ∧ ¬ frozen beforeLoss n) ∧
      (∀ n, n ∈ [] ↔ n ∈ [11554, 11551] ∧ held.plan.selectOf n = .off ∧ ¬ frozen held n) ∧
      (∀ n, n ∈ [] ↔ IndexSet.has held.plan.shortfall n = true ∧ held.plan.selectOf n = .off ∧ ¬ frozen held n) ∧
      (changed.derivedSelect 11551 = .off ∧ changed.plan.selectOf 11551 = .b) ∧
      (changed.derivedSelect 11554 = .a ∧ changed.plan.selectOf 11554 = .off) ∧
      (awake.plan.selectOf 11551 = .a ∧ (withRecords awake [(23102, record .confirmed 0 0)]).derivedSelect 11551 = .b) := by
  have gone : beforeLoss.plan.selectOf 11554 = .off ∧ beforeLoss.plan.selectOf 11551 ≠ .off := by decide
  have free : ¬ beforeLoss.recomputeFrozen 11554 = true := by decide
  have shut : (beforeLoss.setCapture { Capture.powerOn with held := 1 }).recomputeFrozen 11554 = true := by decide
  have marks : (recompute 11554 beforeLoss).plan.shortfall = [] := by decide
  refine ⟨by decide, ⟨by simp, by simp [Table.canonical, List.pairwise_map, List.pairwise_lt_range]⟩, rfl, by decide,
    fun n => ?_, fun n => ?_, fun n => ⟨(nomatch ·), ?_⟩, fun n => ⟨(nomatch ·), fun h => absurd h.1 Bool.false_ne_true⟩,
    by decide, by decide, by decide⟩
  · simp only [List.mem_cons, List.not_mem_nil, or_false]
    constructor
    · rintro rfl; exact ⟨.inl rfl, gone.1, free⟩
    · rintro ⟨rfl | rfl, h, _⟩
      · rfl
      · exact absurd h gone.2
  · rw [marks]
    exact ⟨(nomatch ·), fun h => absurd h.1 Bool.false_ne_true⟩
  · rintro ⟨h, h1, h2⟩
    simp only [List.mem_cons, List.not_mem_nil, or_false] at h
    obtain rfl | rfl := h
    · exact absurd shut h2
    · exact absurd h1 gone.2

theorem witness_ArmCaptureReplacesArming :
    Handing (ask awake 0x28 [3, 0, 0, 0, 47, 47, 2, 2, 1, 1]) (message 0x28 [3, 0, 0, 0, 47, 47, 2, 2, 1, 1]) [] ∧
      BitVec.ofNat 11 ((3 : Byte).toNat + 256 * (0 : Byte).toNat) ≠ 0 ∧ (2 : Byte).truncate 3 ≠ 0#3 ∧ (0 : Byte) ≤ 47 ∧
      (1 : Byte) ≤ 1 ∧ ¬ (2 : Byte) ≤ 1 :=
  ⟨handing_ask _ _ _ rfl (by decide), by decide⟩

theorem witness_CaptureIsDisarmedAndRead :
    Handing (ask awake 0x29 []) (message 0x29 []) [] ∧ Handing (ask awake 0x2A []) (message 0x2A []) [] ∧
      awake.capture.snapshot = none ∧
      ({ awake.capture with snapshot := some (awake.snapshotOf { kind := .pinned, die := 30, fault := .none, pass := 0 }) } :
        Capture).snapshot = some (awake.snapshotOf { kind := .pinned, die := 30, fault := .none, pass := 0 }) :=
  ⟨handing_ask _ _ _ rfl (by decide), handing_ask _ _ _ rfl (by decide), rfl, rfl⟩

theorem witness_ReleaseHoldResolvesDeferred :
    Handing (ask awake 0x2B []) (message 0x2B []) [] ∧ awake.capture.held = 0 ∧
      Handing (ask underHold 0x2B []) (message 0x2B []) [] ∧ underHold.capture.held ≠ 0 ∧
      IndexSet.has underHold.plan.deferred 11554 = true ∧ IndexSet.has underHold.plan.deferred 11551 = false :=
  ⟨handing_ask _ _ _ rfl (by decide), rfl, handing_ask _ _ _ rfl (by decide), by decide⟩

/-- The cabinet awake and ARMED for PINNED, with slot 0 in the hold mask; a set of kinds without PINNED does not fit. -/
def armed : State :=
  awake.setCapture { Capture.powerOn with
    state := .armed
    arming := { kinds := 0x100, place := none, combine := .m1, holdMask := 1, autoRearm := true } }

theorem witness_MatchTakesSnapshotAndHolds :
    let s := ask armed 0x18 [0x44, 0x5A, 0, 0]
    Handing s (message 0x18 [0x44, 0x5A, 0, 0]) [] ∧ s.layout.status = .set ∧ s.layout.presentDie 23108 = true ∧
      Table.fetch s.map.records 23108 = none ∧ s.map.records.length < 1024 ∧ s.capture.state = .armed ∧
      s.capture.arming.combine = .m1 ∧ s.capture.arming.kinds.getLsbD 8 = true ∧
      s.capture.arming.holdMask.getLsbD (slotOfChannel (dieChannel 23108)) = true ∧ (2 : BitVec 11).getLsbD 8 = false :=
  ⟨handing_ask _ _ _ rfl (by decide), by decide⟩

theorem witness_StandbyAnsweredOrWaits :
    Handing (ask cabinet 0x30 []) (message 0x30 []) [] ∧ cabinet.scan.display = .standby ∧
      Handing (ask awake 0x30 []) (message 0x30 []) [] ∧ awake.scan.display ≠ .standby :=
  ⟨handing_ask _ _ _ rfl (by decide), rfl, handing_ask _ _ _ rfl (by decide), by decide⟩

theorem witness_WakeStartsWaking :
    Handing (ask cabinet 0x31 []) (message 0x31 []) [] ∧ cabinet.scan.display = .standby ∧ cabinet.layout.status = .set ∧
      Handing (ask State.reset 0x31 []) (message 0x31 []) [] ∧ State.reset.layout.status = .unset ∧
      Handing (ask awake 0x31 []) (message 0x31 []) [] ∧ awake.scan.display ≠ .standby :=
  ⟨handing_ask _ _ _ rfl (by decide), rfl, rfl, handing_ask _ _ _ rfl (by decide), rfl,
    handing_ask _ _ _ rfl (by decide), by decide⟩

/-- With a RETEST running, with nothing running and nothing to resolve, and with a channel deferred. -/
theorem witness_RestartReturnsBlocks :
    let s := ask (withRunning twoRecords .retest) 0x32 []
    (Handing s (message 0x32 []) [] ∧ TablesCanonical s ∧ s.sense.long.running = true ∧ s.sense.long.kind = .retest ∧
      s.layout.fitted 0 = true ∧ s.layout.fitted 7 = false) ∧
    (Handing (ask twoRecords 0x32 []) (message 0x32 []) [] ∧ TablesCanonical (ask twoRecords 0x32 []) ∧
      twoRecords.sense.long.running = false ∧ twoRecords.plan = Plan.clear ∧
      ∀ i : Fin 8, twoRecords.layout.fitted i = true → twoRecords.sense.modules[i].state ≠ .dark) ∧
    Handing (ask underHold 0x32 []) (message 0x32 []) [] ∧ TablesCanonical (ask underHold 0x32 []) ∧
      IndexSet.has underHold.plan.deferred 11554 = true ∧ IndexSet.has underHold.plan.deferred 11551 = false := by
  refine ⟨⟨handing_ask _ _ _ rfl (by decide), twoRecords_canonical 0x32 [], by decide⟩,
    ⟨handing_ask _ _ _ rfl (by decide), twoRecords_canonical _ _, rfl, rfl, by decide⟩,
    handing_ask _ _ _ rfl (by decide), ?_, by decide, by decide⟩
  show TablesCanonical underHold
  unfold TablesCanonical; decide

/-- The first row, a row that clamps, and the last row. -/
theorem witness_LightRowSendsDrives :
    (awake.scan.phase = .pass ∧ awake.scan.rowsLit < awake.layout.height) ∧
      ((concealed 21).scan.phase = .pass ∧ (concealed 21).scan.rowsLit < (concealed 21).layout.height ∧
        (concealed 21).scan.clip = false ∧ 65535 < (concealed 21).driveOut 12127) ∧
      ((passAt 95).scan.phase = .pass ∧ (passAt 95).scan.rowsLit < (passAt 95).layout.height) := by
  decide

theorem witness_PassEndEntersStandby :
    let s := fun w => { passAt 96 with scan := { (passAt 96).scan with standby := w } }
    (∀ w, (s w).scan.phase = .pass ∧ (s w).layout.height ≤ (s w).scan.rowsLit) ∧ (s .requested).scan.standby ≠ .none ∧
      (s .requestedOwed).scan.standby ≠ .none ∧ (ask (s .requestedOwed) 0x30 []).control.queue = message 0x30 [] :: [] ∧
      (inBlock .awaitingIndex []).input.state = .rows ∧ (s .requested).input.state ≠ .rows ∧
      (withRunning (s .requested) .retest).sense.long.running = true ∧
      (withRunning (s .requested) .retest).sense.long.kind = .retest ∧
      (withRunning (s .requested) .survey).sense.long.kind ≠ .retest ∧ Table.canonical twoRecords.map.records = true ∧
      (s .requested).sense.long.running = false :=
  ⟨fun _ => ⟨rfl, Nat.le_refl 96⟩, by decide⟩

/-- WAKING; and ACTIVE with a SUSPECT and a RETEST record to serve, no module DARK, and 5.7's survey with budget left. -/
theorem witness_PassEndChoosesTests :
    let w := { passAt 96 with scan := { (passAt 96).scan with display := .waking } }
    let s := withRecords (passAt 96) [(23102, record .suspect 1 1), (23103, record .retest 0 0)]
    (w.scan.phase = .pass ∧ w.layout.height ≤ w.scan.rowsLit ∧ w.scan.standby = .none ∧ w.scan.display = .waking) ∧
      s.scan.phase = .pass ∧ s.layout.height ≤ s.scan.rowsLit ∧ s.scan.standby = .none ∧ s.scan.display = .active ∧
      s.sense.gap = [] ∧ RecordsPresent s ∧ Table.canonical s.map.records = true ∧
      (∀ i : Fin 8, s.sense.modules[i].state ≠ .dark) ∧
      (s.map.records.filter fun e => decide (e.2.state = .suspect ∨ e.2.state = .retest)).length ≤ s.params.b ∧
      s.sense.patrol < 110592 ∧
      (withRunning s .survey).sense.long.running = true ∧ (withRunning s .survey).sense.long.kind = .survey ∧
      (setCursor (some 23104) (withRunning s .survey)).sense.long.cursor = some 23104 ∧
      s.params.b - ((after .passEnd s).sense.gap.filter fun e => decide (e.purpose = .probe)).length -
        ((after .passEnd s).sense.gap.filter fun e => decide (e.purpose = .dueTest)).length ≠ 0 := by
  refine ⟨by decide, rfl, by decide, rfl, rfl, rfl, ?_, by decide, by decide, by decide, by decide, rfl, rfl, rfl, by decide⟩
  unfold RecordsPresent; decide

theorem witness_GapEndStartsPass :
    let s := fun d n => (inGap []).setScan { (inGap []).scan with display := d, wakingLeft := n }
    (s .active 0).scan.phase = .gap ∧ (s .active 0).scan.display = .active ∧ (s .waking 0).scan.phase = .gap ∧
      (s .waking 0).scan.display = .waking ∧ (s .waking 0).scan.wakingLeft = 0 ∧ (s .waking 1).scan.wakingLeft ≠ 0 := by
  decide

/-- With no plan, no channel is LOST. -/
theorem none_lost (n : Nat) : State.reset.plan.selectOf n ≠ .off := by
  rw [show State.reset.plan.selectOf n = .a from rfl]; decide

/-- Gap g1 of 5.7, with a survey whose cursor has passed the end: slot 6 alone falls DARK. -/
theorem witness_SilentModulesGoDark :
    let s := withRunning (inGap [test 69696, test 69697, test 69698, test 69699]) .survey
    s.scan.phase = .gap ∧ s.scan.display = .active ∧ (s.sense.gap.map GapEntry.die).Nodup ∧ s.layout.fitted 6 = true ∧
      s.sense.modules[6].noAnswer ≤ 3 ∧ s.sense.long.running = true ∧ s.sense.long.kind = .survey ∧
      s.sense.long.cursor = none ∧
      (∀ j : Fin 8, (after .gapEnd s).sense.modules[j].state ≠ s.sense.modules[j].state ↔ j = 6) ∧
      (∀ j : Fin 8, (after .gapEnd (inGap [])).sense.modules[j].state = (inGap []).sense.modules[j].state) ∧
      ∀ n, n ∈ [] ↔ s.plan.selectOf n = .off ∧
        (slotOfChannel n = 6 ∨ ∃ m ∈ s.layout.neighbours n, slotOfChannel m = 6) := by
  refine ⟨by decide, by decide, by decide, by decide, by decide, by decide, by decide, by decide, by decide, by decide,
    fun n => ⟨(nomatch ·), fun h => absurd h.1 (none_lost n)⟩⟩

/-- A state in the gap with one test out whose module is in state `x` with a settle. -/
def onModule (x : ModuleState) (settle : Nat) : State :=
  setModule (slotOfChannel (dieChannel 23108)) { state := x, settle := settle, noAnswer := 0, probeCursor := none }
    (inGap [test 23108])

/-- With C at 3, and with C at 1; OK and SHORT on a HOT, a settling and a DARK module. -/
theorem witness_AnswerOpensRecord :
    let s := fun c => (inGap [test 23108]).setParams { Params.defaults with c := c }
    (∀ c ∈ [3, 1], test 23108 ∈ (s c).sense.gap ∧ (test 23108).outstanding = true ∧
      (∀ o : TestAnswer, HandsOn (s c) 23108 o false) ∧ Table.fetch (s c).map.records 23108 = none ∧
      (s c).map.records.length < 1024 ∧ (s c).map.queue.length ≤ 64 ∧ ParamsInRange (s c) ∧
      ((s c).sense.gap.map GapEntry.die).Nodup ∧ (s c).capture.state ≠ .armed ∧ (s c).capture.held = 0) ∧
    ∀ o ∈ [TestAnswer.ok, .shorted], ∀ hot : Bool, HandsOn (onModule .hot 0) 23108 o hot ∧
      HandsOn (onModule .online 8) 23108 o hot ∧ HandsOn (onModule .dark 0) 23108 o hot := by
  refine ⟨fun c hc => ?_, fun o ho hot => ?_⟩
  · rw [List.mem_cons, List.mem_singleton] at hc
    obtain rfl | rfl := hc <;>
      exact ⟨by decide, rfl, fun o => by unfold HandsOn; cases o <;> decide, by decide, by decide, by decide,
        by unfold ParamsInRange; decide, by decide, by decide, rfl⟩
  · rw [List.mem_cons, List.mem_singleton] at ho
    unfold HandsOn
    obtain rfl | rfl := ho <;> cases hot <;> decide

/-- A SUSPECT window at each of its three outcomes, and a RETEST record, alone and with another. -/
theorem witness_AnswerDecidesWindow :
    let s := fun r => withRecords (inGap [test 23108]) [(23108, r)]
    (∀ r ∈ [record .suspect 2 3, record .suspect 1 3, record .suspect 1 1, record .retest 0 0],
      test 23108 ∈ (s r).sense.gap ∧ (test 23108).outstanding = true ∧ Table.fetch (s r).map.records 23108 = some r ∧
        (r.state = .suspect ∨ r.state = .retest) ∧ (s r).map.queue.length ≤ 64 ∧
        ((s r).sense.gap.map GapEntry.die).Nodup ∧ Table.canonical (s r).map.records = true ∧
        (s r).capture.state ≠ .armed ∧ (s r).capture.held = 0) ∧
      (∀ r, HandsOn (s r) 23108 .opened false ∧ HandsOn (s r) 23108 .ok true) ∧
      (([(23108, record .retest 0 0)] : Table DefectRecord).any fun f => decide (f.1 ≠ 23108 ∧ f.2.state = .retest)) = false ∧
      (twoRecords.map.records.any fun f => decide (f.1 ≠ 23108 ∧ f.2.state = .retest)) = true ∧
      Params.defaults.c ≤ 2 + 1 ∧ (1 < Params.defaults.c ∧ 1 + Params.defaults.w < Params.defaults.c + (3 + 1)) ∧
      Params.defaults.c + (1 + 1) ≤ 1 + Params.defaults.w := by
  refine ⟨by decide, fun r => ?_, by decide, by decide, by decide, by decide, by decide⟩
  have h : HandsOn (inGap [test 23108]) 23108 .opened false ∧ HandsOn (inGap [test 23108]) 23108 .ok true := by
    unfold HandsOn; decide
  exact h

/-- An answer to a later gap; no test out for the die; one out for a die with no record, and for a pinned die; a DARK module with no LOST channel. -/
theorem witness_AnswerMovesModule :
    1 ≠ (inGap [test 23108]).sense.gapNumber ∧ 0 = (inGap [test 23108]).sense.gapNumber ∧
    (∀ e ∈ (inGap []).sense.gap, e.die = 23108 → e.outstanding = false) ∧
    (∃ e ∈ (inGap [test 23108]).sense.gap, e.die = 23108 ∧ e.outstanding = true) ∧
      (inGap [test 23108]).sense.modules[slotOfChannel (dieChannel 23108)].state ≠ .vacant ∧
      (inGap [test 23108]).diePinned 23108 = false ∧
      (withRecords (inGap [test 23108]) [(23108, record .pinnedGood 0 0)]).diePinned 23108 = true ∧
      ((inGap [test 23108]).sense.gap.map GapEntry.die).Nodup ∧
      (onModule .dark 0).sense.modules[slotOfChannel (dieChannel 23108)].state = .dark ∧
      ∀ n, n ∈ [] ↔ (onModule .dark 0).plan.selectOf n = .off ∧ (slotOfChannel n = 0 ∨
        ∃ m ∈ (onModule .dark 0).layout.neighbours n, slotOfChannel m = 0) := by
  refine ⟨by decide, rfl, by decide, ⟨test 23108, by decide, rfl, rfl⟩, by decide, by decide, by decide, by decide, by decide,
    fun n => ⟨(nomatch ·), fun h => absurd h.1 (none_lost n)⟩⟩

/-- With nothing held, and with slot 0 held; for a SUSPECT, a RETEST, a CONFIRMED record, and for none in a full map. -/
theorem witness_LiveShortCutsChannel :
    (∀ x ∈ [RecordState.suspect, .retest, .confirmed], let s := withRecords awake [(5940, record x 0 0)]
      Table.fetch s.map.records 5940 = some (record x 0 0) ∧ s.recordState 5940 ≠ some .pinnedGood) ∧
    (Table.fetch (manyRecords .confirmed) 5940 = none ∧ 1024 ≤ (manyRecords .confirmed).length ∧
      ∀ e ∈ manyRecords .confirmed, e.2.state ≠ .suspect) ∧ (∃ e ∈ manyRecords .suspect, e.2.state = .suspect) ∧
    awake.scan.display = .active ∧ awake.scan.phase = .pass ∧ awake.layout.presentDie 5940 = true ∧
      awake.scan.selectOf (dieChannel 5940) = (if 5940 % 2 = 1 then .b else .a) ∧
      awake.recordState 5940 ≠ some .pinnedGood ∧ Table.fetch awake.map.records 5940 = none ∧
      awake.map.records.length < 1024 ∧ awake.plan.selectOf (dieChannel 5940) ≠ .off ∧ awake.capture.held = 0 ∧
      awake.capture.state ≠ .armed ∧
      (awake.setCapture { Capture.powerOn with held := 1 }).capture.held.getLsbD (slotOfChannel (dieChannel 5940)) = true :=
  ⟨by decide, ⟨manyRecords_fetch _ 5940 (by decide), by simp [manyRecords],
    fun e he => by rw [manyRecords_state .confirmed e he]; decide⟩, ⟨_, manyRecords_mem .suspect, rfl⟩, by decide⟩

theorem witness_LiveShortLeftAlone :
    (cabinet.scan.display ≠ .active) ∧ (awake.scan.selectOf (dieChannel 5941) ≠ (if 5941 % 2 = 1 then .b else .a)) ∧
      awake.layout.presentDie 12420 = false ∧
      (awake.scan.display = .active ∧ awake.scan.phase = .pass ∧ awake.layout.presentDie 5940 = true ∧
        awake.scan.selectOf (dieChannel 5940) = (if 5940 % 2 = 1 then .b else .a) ∧
        (withRecords awake [(5940, record .pinnedGood 0 0)]).recordState 5940 = some .pinnedGood) := by
  decide

/-- The receiver in each state. -/
theorem witness_LinkBytesOutsideFrames :
    let s := fun x => awake.setInput { Receiver.powerOn with state := x }
    (s .hunt).input.state = .hunt ∧ (s .discard).input.state = .discard ∧ (s .sync).input.state = .sync ∧
      (s .gap).input.state = .gap := by
  decide

/-- A fourth header byte, plain and escaped: while UNSET, with a wrong geometry, and accepted awake and in STANDBY with a wake
and without. -/
theorem witness_HeaderIsCollectedAndJudged :
    let h := fun (s : State) e => s.setInput { Receiver.powerOn with state := .header, escape := e, header := [4, 0, 2] }
    (∀ e, (h awake e).input.state = .header ∧ (h awake e).input.header = [4, 0, 2] ∧ (h awake e).input.escape = e) ∧
      ((0x23 : Byte) ≠ 0xD1 ∧ (0x23 : Byte) ≠ 0xDC ∧ (0x23 : Byte) ≠ 0xDE ∧ (0x23 : Byte) ≠ 0xDF) ∧
      (∀ b ∈ ([0xF1, 0xFC, 0xFE, 0xFF, 0xDF] : List Byte), 0x00 ≠ b) ∧
      State.reset.layout.status = .unset ∧ awake.layout.status = .set ∧
      (0x13 : Byte).toNat / 16 ≠ awake.layout.record.mr ∧
      ((0x23 : Byte).toNat % 16 = awake.layout.record.mc ∧ (0x23 : Byte).toNat / 16 = awake.layout.record.mr) ∧
      awake.scan.display ≠ .standby ∧ cabinet.scan.display = .standby ∧ (2 : Byte).getLsbD 1 = true ∧
      ({ Params.defaults with wakeOnFlag := true } : Params).wakeOnFlag = true ∧ cabinet.params.wakeOnFlag = false ∧
      cabinet.params.wakeOnLock = false :=
  ⟨fun _ => ⟨rfl, rfl, rfl⟩, by decide⟩

/-- The state with an escape pending. -/
def escaped (s : State) : State := s.setInput { s.input with escape := true }

/-- The last row of the grid and the first beyond it, at the index and at the check; a byte carried by an escape. -/
theorem witness_RowBlockStartsAndEnds :
    ((escaped (inBlock .awaitingCheck [])).input.state = .rows ∧ (escaped (inBlock .awaitingCheck [])).input.escape = true ∧
      (escaped (inBlock .awaitingCheck [])).store.length = (escaped (inBlock .awaitingCheck [])).layout.height ∧
      (0xD1 : Byte) = 0xF1 ^^^ 0x20) ∧
    (∀ b ∈ ([95, 96] : List Byte), b ≠ 0xD1 ∧ b ≠ 0xDC ∧ b ≠ 0xDE ∧ b ≠ 0xDF) ∧
      (95 : Byte).toNat < awake.layout.height ∧ ¬ (96 : Byte).toNat < awake.layout.height ∧
      ∀ p ∈ [BlockPosition.awaitingIndex, .awaitingCheck], (inBlock p []).input.state = .rows ∧
        (inBlock p []).input.escape = false ∧ (inBlock p []).store.length = (inBlock p []).layout.height ∧
        (inBlock p []).input.position = p ∧ (inBlock p []).input.mode = .written := by
  decide

/-- The last byte of the first group, and the last data byte of the block; a byte carried by an escape. -/
theorem witness_PixelGroupsAreUnpacked :
    ((escaped (inBlock (.inData 4) [])).input.escape = true ∧ (escaped (inBlock (.inData 4) [])).input.state = .rows ∧
      (escaped (inBlock (.inData 4) [])).input.position = .inData 4 ∧ (0xDF : Byte) = 0xFF ^^^ 0x20) ∧
    ((0x01 : Byte) ≠ 0xD1 ∧ (0x01 : Byte) ≠ 0xDC ∧ (0x01 : Byte) ≠ 0xDE ∧ (0x01 : Byte) ≠ 0xDF) ∧
      ∀ n ∈ [4, 539], (inBlock (.inData n) [1, 8, 48, 0]).input.state = .rows ∧
        (inBlock (.inData n) [1, 8, 48, 0]).input.escape = false ∧
        (inBlock (.inData n) [1, 8, 48, 0]).input.position = .inData n ∧
        (inBlock (.inData n) [1, 8, 48, 0]).input.group = [1, 8, 48, 0] ∧
        (inBlock (.inData n) [1, 8, 48, 0]).input.mode = .written ∧
        (inBlock (.inData n) [1, 8, 48, 0]).input.blockRow.toNat < (inBlock (.inData n) [1, 8, 48, 0]).layout.height := by
  decide

theorem witness_FrameClosesOrIsCut :
    (inBlock .awaitingIndex []).input.state = .rows ∧ (inBlock .awaitingIndex []).input.escape = false ∧
      (inBlock .awaitingIndex []).input.position = .awaitingIndex ∧ (inBlock (.inData 4) []).input.position ≠ .awaitingIndex ∧
      ((inBlock .awaitingIndex []).setInput { (inBlock .awaitingIndex []).input with escape := true }).input.escape = true ∧
      ((0x00 : Byte) ≠ 0xDF ∧ (0x00 : Byte) ≠ 0xF1 ∧ (0x00 : Byte) ≠ 0xFC ∧ (0x00 : Byte) ≠ 0xFE ∧ (0x00 : Byte) ≠ 0xFF ∧
        (0x00 : Byte) ≠ 0xD1) := by
  decide

theorem witness_LossOfSignalHunts :
    State.reset.input.state = .hunt ∧ (inBlock .awaitingIndex []).input.state = .rows ∧
      ((awake.setInput { Receiver.powerOn with state := .gap }).input.state ≠ .hunt ∧
        (awake.setInput { Receiver.powerOn with state := .gap }).input.state ≠ .rows) := by
  decide

theorem witness_EventsAreReadAndMasked :
    Handing (ask threeEvents 0x38 []) (message 0x38 []) [] ∧ Handing (ask threeEvents 0x38 [0, 2]) (message 0x38 [0, 2]) [] ∧
      Handing (ask threeEvents 0x39 [0, 0]) (message 0x39 [0, 0]) [] :=
  ⟨handing_ask _ _ _ rfl (by decide), handing_ask _ _ _ rfl (by decide), handing_ask _ _ _ rfl (by decide)⟩

theorem witness_CountersWrapAndAreRead :
    (∀ b ∈ ([0, 1, 2] : List Byte), Handing (ask awake 0x3A [b]) (message 0x3A [b]) []) ∧ (2 : Byte) ≠ 0 ∧ (2 : Byte) ≠ 1 :=
  ⟨fun _ _ => handing_ask _ _ _ rfl (by decide), by decide⟩

/-! For the invariants: the part awake, with three events set, taking a PASS_END or a loss of signal. -/

/-- The part in the last moment of an ACTIVE pass, its event line asserted, with two commands waiting. -/
def running : State := { threeEvents with pending := [.passEnd, .gapEnd], scan := (passAt 96).scan }

/-- The state its next step leads to. -/
def stepped : State := after .passEnd (running.setPending [.gapEnd])

theorem running_steps : step running = .next stepped := rfl

theorem witness_AttentionFollowsEveryStep : AttentionFollows running ∧ step running = .next stepped :=
  ⟨⟨fun _ => ⟨.moduleDark, by decide, by decide⟩, fun _ => by decide⟩, rfl⟩

theorem witness_TablesStayInOrder :
    TablesCanonical running ∧ WithinCapacity running ∧ HandConsistent running ∧ DisplayConsistent running ∧
      LiveFollowsPlan running ∧ LiveWithinCapacity running ∧ step running = .next stepped := by
  refine ⟨?_, ?_, ?_, ?_, fun _ _ => ⟨rfl, rfl⟩, Nat.zero_le _, rfl⟩
  · unfold TablesCanonical; decide
  · unfold WithinCapacity; decide
  · unfold HandConsistent; decide
  · unfold DisplayConsistent; decide

theorem witness_LiveTablesFollowThePlan :
    LiveFollowsPlan running ∧ OffHoldsNoEntry running ∧ step running = .next stepped :=
  ⟨fun _ _ => ⟨rfl, rfl⟩, ⟨fun _ _ => rfl, fun _ _ => rfl⟩, rfl⟩

theorem witness_SharesStayBounded :
    ParamsInRange running ∧ LiveFollowsPlan running ∧ SharesBounded running ∧ step running = .next stepped := by
  refine ⟨by unfold ParamsInRange; decide, fun _ _ => ⟨rfl, rfl⟩, ⟨fun n => ?_, ?_⟩, rfl⟩
  case refine_2 => rintro n e (h | h) <;> cases h
  have h : running.layout.sharesAt [] n = 0 := by
    simp only [Layout.sharesAt, directions, List.map_cons, List.map_nil]
    cases running.layout.neighbour n .left <;> cases running.layout.neighbour n .up <;>
      cases running.layout.neighbour n .right <;> cases running.layout.neighbour n .down <;> rfl
  exact ⟨by show running.layout.sharesAt [] n ≤ 256; omega, by show running.layout.sharesAt [] n ≤ 256; omega⟩

theorem witness_RecordCountsStaySound :
    let s := { withRecords (inGap [test 23108]) [(23102, record .confirmed 0 0), (23108, record .suspect 2 14)] with
      pending := [.gapTestAnswer ⟨23108, 0⟩ .opened false] }
    ParamsInRange s ∧ RecordCountsSound s ∧ step s = .next (after (.gapTestAnswer ⟨23108, 0⟩ .opened false) (s.setPending [])) := by
  refine ⟨by unfold ParamsInRange; decide, by unfold RecordCountsSound; decide, rfl⟩

theorem witness_LayoutAndModulesStaySound :
    LayoutSound running ∧ ModulesSound running ∧ step running = .next stepped := by
  refine ⟨by unfold LayoutSound; decide, by unfold ModulesSound; decide, rfl⟩

theorem witness_RecordsAndTestsNamePresentDies :
    let s := { withRecords (inGap [test 23108]) [(23108, record .suspect 2 3)] with
      pending := [.gapTestAnswer ⟨23108, 0⟩ .opened false] }
    ParamsInRange s ∧ DisplayConsistent s ∧ Table.canonical s.map.records = true ∧ RecordsPresent s ∧ GapSound s ∧
      step s = .next (after (.gapTestAnswer ⟨23108, 0⟩ .opened false) (s.setPending [])) := by
  refine ⟨by unfold ParamsInRange; decide, by unfold DisplayConsistent; decide, by decide,
    by unfold RecordsPresent; decide, by unfold GapSound; decide, rfl⟩

end Sys2Proof.Tests
end

section
/-! PROOFS. A byte of the Video Input Link taken outside a header and a frame: the states HUNT, SYNC, DISCARD and GAP. -/

namespace Sys2Proof.Machine

/-! ## Sync and symbol errors with no frame in reception -/

/-- With no frame in reception an S1 cuts nothing. -/
theorem linkSync_of_not_rows {s : State} (h : s.input.state ≠ .rows) : linkSync s = toRx .sync s := by
  simp only [linkSync, if_neg h]

/-- With no frame in reception a symbol error is counted and cuts nothing. -/
theorem symbolError_of_not_rows {s : State} (h : s.input.state ≠ .rows) :
    symbolError s = toHunt (count .symbolErrors s) := by
  have hcount : (count .symbolErrors s).input.state ≠ .rows := by rwa [count_input]
  simp only [symbolError, if_neg hcount]

/-! ## LINK_BYTE in the states that do not sort bytes -/

theorem exec_linkByte (b : Byte) (s : State) : exec (.linkByte b) s = .next (takeLinkByte b s) := rfl

/-- In HUNT and in DISCARD only an S1 acts (R19, R34). -/
theorem takeLinkByte_of_hunt_or_discard {s : State} (b : Byte) (h : s.input.state = .hunt ∨ s.input.state = .discard) :
    takeLinkByte b s = if b = linkS1 then toRx .sync s else s := by
  obtain hhunt | hdiscard := h
  · have hrows : s.input.state ≠ .rows := by simp [hhunt]
    simp only [takeLinkByte, hhunt, linkSync_of_not_rows hrows]
  · have hrows : s.input.state ≠ .rows := by simp [hdiscard]
    simp only [takeLinkByte, hdiscard, linkSync_of_not_rows hrows]

theorem takeLinkByte_of_sync {s : State} (b : Byte) (h : s.input.state = .sync) : takeLinkByte b s = syncByte b s := by
  simp only [takeLinkByte, h]

/-- In GAP fill is discarded, an S1 acts, and any other byte is a symbol error that cuts nothing (R35). -/
theorem takeLinkByte_of_gap {s : State} (b : Byte) (h : s.input.state = .gap) :
    takeLinkByte b s =
      if b = linkFill then s else if b = linkS1 then toRx .sync s else toHunt (count .symbolErrors s) := by
  have hrows : s.input.state ≠ .rows := by simp [h]
  simp only [takeLinkByte, h, gapByte, linkSync_of_not_rows hrows, symbolError_of_not_rows hrows]

/-- Settles O46, state by state: none of the four states is ROWS, so no frame is cut. -/
theorem linkBytesOutsideFrames : Obligations.LinkBytesOutsideFrames := by
  intro s b
  refine ⟨fun hstate => ?huntOrDiscard, fun hsync => ?sync, fun hgap => ?gap⟩
  case huntOrDiscard => rw [exec_linkByte, takeLinkByte_of_hunt_or_discard b hstate]; rfl
  case sync => rw [exec_linkByte, takeLinkByte_of_sync b hsync]; rfl
  case gap => rw [exec_linkByte, takeLinkByte_of_gap b hgap]; rfl

end Sys2Proof.Machine
end

section
/-! PROOFS. Handing on the message at the head of the queue (R178), and DISARM and READ_CAPTURE (R169, R170). -/

namespace Sys2Proof.Machine

/-! ## Handing a message on -/

section HandOn

variable {s u : State} {m : Message} {rest : List Message} {kind : Byte} {act : List Byte → State → State × Answer}

theorem handable_of_handing (h : Handing s m rest) : s.handable = some m := by
  obtain ⟨hhand, hroom, hqueue⟩ := h
  have hopen : ¬ (s.control.inHand ∨ Config.replyCapacity ≤ s.control.replies.length) := by
    simp only [hhand, Bool.false_eq_true, false_or, Nat.not_le]
    exact hroom
  simp only [State.handable, if_neg hopen, hqueue, List.head?_cons]

/-- A message of the command's kind and of an allowed length reaches the owning block's action (R178, R180). -/
theorem handOn_of_handing (h : Handing s m rest) (hkind : m.kind = kind)
    (hlength : m.payload.length ∈ (payloadLengths kind).getD []) :
    handOn kind act s = settleAnswer m (act m.payload s) := by
  simp only [handOn, handable_of_handing h, if_pos hkind, if_pos hlength]

/-- When the owning block answers OK, the hand-on forms that reply in the state the block leaves (R178, R180). -/
theorem handOn_of_ok {data : List Byte} (h : Handing s m rest) (hkind : m.kind = kind)
    (hlength : m.payload.length ∈ (payloadLengths kind).getD []) (hact : act m.payload s = (u, .ok data)) :
    handOn kind act s = formReply m .ok data u := by
  rw [handOn_of_handing h hkind hlength, hact]; rfl

@[simp] theorem formReply_capture (m : Message) (st : Status) (data : List Byte) (s : State) :
    (formReply m st data s).capture = s.capture := rfl

/-- A reply formed in a state that keeps the Control Port of `s` answers the message `s` hands on (R178, R179). -/
theorem formReply_answered (h : Handing s m rest) (hcontrol : u.control = s.control) (st : Status) (data : List Byte) :
    Answered s (formReply m st data u) m rest (st.code :: data) := by
  obtain ⟨-, -, hqueue⟩ := h
  simp only [Answered, formReply, State.setControl_control, hcontrol, hqueue, List.tail_cons, replyTo]

end HandOn

/-! ## The bytes of a snapshot (R191) -/

/-- Four flags packed: each set flag adds its power of two. -/
theorem packBits_four (a b c d : Bool) :
    packBits [a, b, c, d] =
      (if a then 1 else 0) + (if b then 2 else 0) + (if c then 4 else 0) + (if d then 8 else 0) := by
  revert a b c d; decide

theorem directionSet_eq (e : BoostEntry) :
    directionSet e =
      byteOf ((if e.left.isSome then 1 else 0) + (if e.up.isSome then 2 else 0) + (if e.right.isSome then 4 else 0) +
        (if e.down.isSome then 8 else 0)) :=
  congrArg byteOf (packBits_four _ _ _ _)

theorem shareBytes_eq (e : BoostEntry) :
    shareBytes e = [byteOf (e.left.getD 1 - 1), byteOf (e.up.getD 1 - 1), byteOf (e.right.getD 1 - 1),
      byteOf (e.down.getD 1 - 1)] := rfl

theorem snapshotRecordBytes_of_none {n : Snapshot} (h : n.record = none) :
    snapshotRecordBytes n = 0 :: List.replicate 13 0 := by
  simp only [snapshotRecordBytes, h]; rfl

theorem snapshotRecordBytes_of_some {n : Snapshot} {r : DefectRecord} (h : n.record = some r) :
    snapshotRecordBytes n = 1 :: recordBytes n.transition.die r := by
  simp only [snapshotRecordBytes, h]; rfl

theorem snapshotBytes_eq (n : Snapshot) :
    snapshotBytes n =
      [byteOf (n.transition.kind.code + 16 * n.transition.fault.code)] ++ bytesOf 3 n.transition.die ++
        bytesOf 4 n.transition.pass.toNat ++ snapshotRecordBytes n ++
        [byteOf (n.pendingSelect.code + 4 * n.liveSelect.code)] ++ directionSet n.liveBoost :: shareBytes n.liveBoost ++ [byteOf n.moduleState.code, byteOf n.settle] ++
        bytesOf 4 n.passNumber.toNat := by
  simp only [snapshotBytes, transitionBytes, selectByte, List.append_assoc, List.cons_append, List.nil_append]

/-! ## DISARM and READ_CAPTURE -/

theorem exec_disarm (s : State) : exec .disarm s = .next (handOn 0x29 actDisarm s) := rfl

theorem exec_readCapture (s : State) : exec .readCapture s = .next (handOn 0x2A actReadCapture s) := rfl

theorem actDisarm_only (p : List Byte) (s : State) : OnlyChanges [.capture] s (actDisarm p s).1 :=
  (setCapture_acts s _).only

theorem actReadCapture_only (p : List Byte) (s : State) : OnlyChanges [] s (actReadCapture p s).1 := OnlyChanges.refl _ s

/-- With no snapshot stored the answer ends after the flag (R170). -/
theorem actReadCapture_of_none {s : State} (p : List Byte) (h : s.capture.snapshot = none) :
    actReadCapture p s = (s, .ok [byteOf s.capture.state.code, s.capture.held, 0]) := by
  simp only [actReadCapture, h]; rfl

theorem actReadCapture_of_some {s : State} {n : Snapshot} (p : List Byte) (h : s.capture.snapshot = some n) :
    actReadCapture p s = (s, .ok ([byteOf s.capture.state.code, s.capture.held, 1] ++ snapshotBytes n)) := by
  simp only [actReadCapture, h]; rfl

/-- Settles O30: DISARM's action edits the capture state alone and READ_CAPTURE's edits nothing, so each hand-on adds only
the reply; a stored snapshot's bytes split on whether it holds a record. -/
theorem captureIsDisarmedAndRead : Obligations.CaptureIsDisarmedAndRead := by
  intro s m rest hhanding hpayload
  refine ⟨fun hkind => ?disarm, fun hkind => ?readCapture⟩
  case disarm =>
    have hreply := handOn_of_ok (act := actDisarm) hhanding hkind (by simp [hpayload, payloadLengths]) rfl
    refine ⟨_, exec_disarm s, ?_, ?_, (handOn_only actDisarm_only _ s).mono (by decide)⟩
    · rw [hreply, formReply_capture, State.setCapture_capture]
    · rw [hreply]; exact formReply_answered hhanding rfl _ _
  case readCapture =>
    have hlength : m.payload.length ∈ (payloadLengths 0x2A).getD [] := by simp [hpayload, payloadLengths]
    refine ⟨_, exec_readCapture s, handOn_only actReadCapture_only _ s, fun hnone => ?empty, fun n hsome => ?stored⟩
    case empty =>
      rw [handOn_of_ok hhanding hkind hlength (actReadCapture_of_none _ hnone)]
      exact formReply_answered hhanding rfl _ _
    case stored =>
      rw [handOn_of_ok hhanding hkind hlength (actReadCapture_of_some _ hsome)]
      convert formReply_answered hhanding rfl .ok _ using 1
      cases hrecord : n.record with
      | none =>
        simp [snapshotBytes_eq, directionSet_eq, shareBytes_eq, Status.code, snapshotRecordBytes_of_none hrecord]
      | some r =>
        simp [snapshotBytes_eq, directionSet_eq, shareBytes_eq, Status.code, snapshotRecordBytes_of_some hrecord]

end Sys2Proof.Machine
end

section
/-! PROOFS. Framing on the control line (R175 to R177): what a character does in IDLE, in ASSEMBLING and after an ESC, how
an END judges the content, and what becomes of a complete message. -/

namespace Sys2Proof.Machine

theorem exec_controlCharacter (ch : Byte) (stopBit : Bool) (s : State) :
    exec (.controlCharacter ch stopBit) s = .next (takeCharacter ch stopBit s) := rfl

/-! ## What is done with the content so far -/

/-- The content with its check byte spells kind, tag and payload (R176). -/
theorem messageOf_frame (kind tag check : Byte) (payload : List Byte) :
    messageOf (kind :: tag :: payload ++ [check]) = { kind := kind, tag := tag, payload := payload } := by
  simp [messageOf]

section Content

variable {s : State} {m : Message} {ch : Byte}

/-- A message joins the tail of a queue with room (R177). -/
theorem offerMessage_of_room (h : s.control.queue.length < 4) :
    offerMessage m s = s.setControl { s.control with queue := s.control.queue ++ [m] } := if_pos h

/-- A queue that holds four drops the message, counts it and raises the event (R177). -/
theorem offerMessage_of_full (h : 4 ≤ s.control.queue.length) :
    offerMessage m s = raise .queueOverflow (count .ctlOverrun s) := if_neg (Nat.not_lt.mpr h)

/-- A content that is too short or does not sum to 0 is a bad frame (R176). -/
theorem completeMessage_of_bad (h : s.control.content.length < 3 ∨ sumOf s.control.content ≠ 0) :
    completeMessage s = badFrame .idle s := if_pos h

/-- A content that sums to 0 is a message, which is offered to the queue once framing has gone to IDLE (R176, R177). -/
theorem completeMessage_of_good {kind tag check : Byte} {payload : List Byte}
    (hcontent : s.control.content = kind :: tag :: payload ++ [check]) (hsum : sumOf s.control.content = 0) :
    completeMessage s = offerMessage { kind := kind, tag := tag, payload := payload } (setFraming .idle false [] s) := by
  have hlength : ¬ s.control.content.length < 3 := by simp [hcontent]
  have hgood : ¬ (s.control.content.length < 3 ∨ contentSum s.control.content ≠ 0) :=
    not_or.mpr ⟨hlength, not_not.mpr hsum⟩
  simp only [completeMessage, if_neg hgood]
  rw [hcontent, messageOf_frame]

/-! ## A character in IDLE (R175) -/

theorem takeCharacter_of_idle (h : s.control.framing = .idle) (ch : Byte) :
    takeCharacter ch true s = if ch = portStart then setFraming .assembling false [] s else s := by
  simp only [takeCharacter, h, true_and]

theorem takeCharacter_of_idle_noStop (h : s.control.framing = .idle) (ch : Byte) : takeCharacter ch false s = s := by
  simp only [takeCharacter, h, Bool.false_eq_true, false_and, if_false]

/-! ## A character in ASSEMBLING (R175) -/

theorem takeCharacter_of_assembling (h : s.control.framing = .assembling) (ch : Byte) :
    takeCharacter ch true s = assembleCharacter ch s := by
  simp only [takeCharacter, h, if_true]

theorem takeCharacter_of_assembling_noStop (h : s.control.framing = .assembling) (ch : Byte) :
    takeCharacter ch false s = badFrame .idle s := by
  simp only [takeCharacter, h, Bool.false_eq_true, if_false]

theorem assembleCharacter_start (h : s.control.escape = false) :
    assembleCharacter portStart s =
      if s.control.content = [] then setFraming .assembling false [] s else badFrame .assembling s := by
  simp only [assembleCharacter, h, Bool.false_eq_true, if_false, if_true]

theorem assembleCharacter_end (h : s.control.escape = false) : assembleCharacter portEnd s = completeMessage s := by
  have hstart : portEnd ≠ portStart := by decide
  simp only [assembleCharacter, h, Bool.false_eq_true, if_false, if_neg hstart, if_true]

theorem assembleCharacter_esc (h : s.control.escape = false) :
    assembleCharacter portEsc s = setFraming .assembling true s.control.content s := by
  have hstart : portEsc ≠ portStart := by decide
  have hend : portEsc ≠ portEnd := by decide
  simp only [assembleCharacter, h, Bool.false_eq_true, if_false, if_neg hstart, if_neg hend, if_true]

/-- Any character but the three reserved ones is a content byte (R175). -/
theorem assembleCharacter_content (h : s.control.escape = false) (hstart : ch ≠ portStart) (hend : ch ≠ portEnd)
    (hesc : ch ≠ portEsc) : assembleCharacter ch s = appendContent ch s := by
  simp only [assembleCharacter, h, Bool.false_eq_true, if_false, if_neg hstart, if_neg hend, if_neg hesc]

/-! ## A character after an ESC (R175) -/

theorem portUnescape_of_bad (h0 : ch ≠ 0xE0) (h1 : ch ≠ 0xE1) (h2 : ch ≠ 0xE2) : portUnescape ch = none :=
  if_neg (not_or.mpr ⟨h0, not_or.mpr ⟨h1, h2⟩⟩)

theorem assembleCharacter_unescaped {v : Byte} (h : s.control.escape = true) (hv : portUnescape ch = some v) :
    assembleCharacter ch s = appendContent v s := by
  simp only [assembleCharacter, h, if_true, hv]

/-- A bad escape is a bad frame; a START that makes it opens the next message (R175). -/
theorem assembleCharacter_badEscape (h : s.control.escape = true) (hv : portUnescape ch = none) :
    assembleCharacter ch s = badFrame (if ch = portStart then .assembling else .idle) s := by
  simp only [assembleCharacter, h, if_true, hv]

end Content

/-- Settles O5, by the framing state and the pending escape; an END splits further on its content and on the queue. -/
theorem charactersAreFramedAndQueued : Obligations.CharactersAreFramedAndQueued := by
  intro s ch framed bad taken
  simp only [exec_controlCharacter, Host.Outcome.next.injEq]
  refine ⟨fun hidle => ⟨takeCharacter_of_idle hidle ch, takeCharacter_of_idle_noStop hidle ch⟩,
    fun hasm => takeCharacter_of_assembling_noStop hasm ch, fun hasm hplain => ?plain, fun hasm hescape => ?escaped⟩
  case plain =>
    simp only [takeCharacter_of_assembling hasm]
    refine ⟨assembleCharacter_start hplain, assembleCharacter_esc hplain, assembleCharacter_content hplain,
      fun hbad => (assembleCharacter_end hplain).trans (completeMessage_of_bad hbad),
      fun kind tag check payload hcontent hsum => ?complete⟩
    have hcomplete := (assembleCharacter_end hplain).trans (completeMessage_of_good hcontent hsum)
    exact ⟨fun hroom => hcomplete.trans (offerMessage_of_room hroom),
      fun hfull => hcomplete.trans (offerMessage_of_full hfull)⟩
  case escaped =>
    simp only [takeCharacter_of_assembling hasm]
    refine ⟨assembleCharacter_unescaped hescape (by decide), assembleCharacter_unescaped hescape (by decide),
      assembleCharacter_unescaped hescape (by decide), assembleCharacter_badEscape hescape (by decide),
      fun h0 h1 h2 hstart => ?badEscape⟩
    have hnoStart : ch ≠ portStart := hstart
    rw [assembleCharacter_badEscape hescape (portUnescape_of_bad h0 h1 h2), if_neg hnoStart]
    rfl

end Sys2Proof.Machine
end

section
/-! PROOFS. GET_LAYOUT, GET_PARAMS and IDENTIFY: the bytes of what is stored (R14, R184, R186). -/

namespace Sys2Proof.Machine

/-! ## The bytes of the layout and of the parameters (R190) -/

theorem slotLayoutBytes_eq (l : SlotLayout) :
    slotLayoutBytes l =
      [if l.fitted then 1 else 0, if l.dieType = .single then 1 else 0, byteOf l.trim, byteOf (l.trim / 256)] := by
  cases hdie : l.dieType <;> simp [slotLayoutBytes, flagByte, bytesOf, hdie, DieType.code, byteOf]

theorem layoutBytes_eq (r : LayoutRecord) :
    layoutBytes r =
      [byteOf r.mc, byteOf r.mr] ++
        r.slots.toList.flatMap (fun l =>
          [if l.fitted then 1 else 0, if l.dieType = .single then 1 else 0, byteOf l.trim, byteOf (l.trim / 256)]) ++
        [byteOf r.passRate, byteOf (r.passRate / 256)] := by
  simp only [layoutBytes, bytesOf, funext slotLayoutBytes_eq]

/-- Three flags packed: four with the last one clear. -/
theorem packBits_three (a b c : Bool) :
    packBits [a, b, c] = (if a then 1 else 0) + (if b then 2 else 0) + (if c then 4 else 0) :=
  packBits_four a b c false

theorem paramBytes_eq (p : Params) :
    paramBytes p =
      [byteOf p.w, byteOf p.c, byteOf p.f, byteOf p.b, byteOf p.l, byteOf (p.l / 256),
        byteOf ((if p.wakeOnLock then 1 else 0) + (if p.wakeOnFlag then 2 else 0) + (if p.autoStandby then 4 else 0))] := by
  simp only [paramBytes, packBits_three, bytesOf, List.cons_append, List.nil_append]

/-! ## Actions that only report -/

/-- A hand-on whose action leaves the state as it is and answers OK adds the reply and nothing else (R178, R180). -/
theorem handOn_reports {s : State} {m : Message} {rest : List Message} {kind : Byte} {data : List Byte}
    {act : List Byte → State → State × Answer} (h : Handing s m rest) (hkind : m.kind = kind)
    (hlength : m.payload.length ∈ (payloadLengths kind).getD []) (hact : act m.payload s = (s, .ok data)) :
    Answered s (handOn kind act s) m rest (0 :: data) ∧ OnlyChanges [.control] s (handOn kind act s) := by
  rw [handOn_of_ok h hkind hlength hact]
  exact ⟨formReply_answered h rfl .ok data, (formReply_acts m .ok data s).only⟩

theorem actGetLayout_of_unset {s : State} (p : List Byte) (h : s.layout.status = .unset) :
    actGetLayout p s = (s, .ok [0]) := by
  simp only [actGetLayout, h]; rfl

theorem actGetLayout_of_set {s : State} (p : List Byte) (h : s.layout.status = .set) :
    actGetLayout p s = (s, .ok (1 :: layoutBytes s.layout.record)) := by
  simp only [actGetLayout, h]; rfl

/-- Settles O12: each of the three actions returns the state as it is with the bytes stored, GET_LAYOUT's by the layout
state. -/
theorem settingsAreReported : Obligations.SettingsAreReported := by
  intro s m rest hhanding hpayload reports
  have hlength : ∀ kind, payloadLengths kind = some [0] → m.payload.length ∈ (payloadLengths kind).getD [] := by
    intro kind hkind
    simp [hkind, hpayload]
  refine ⟨fun hkind hunset => ?unset, fun hkind hset => ?set, fun hkind => ?params, fun hkind => ?identity⟩
  case unset =>
    exact ⟨_, rfl, handOn_reports hhanding hkind (hlength _ rfl) (actGetLayout_of_unset _ hunset)⟩
  case set =>
    refine ⟨_, rfl, handOn_reports hhanding hkind (hlength _ rfl) ?_⟩
    rw [actGetLayout_of_set _ hset, layoutBytes_eq]
    rfl
  case params =>
    refine ⟨_, rfl, handOn_reports hhanding hkind (hlength _ rfl) ?_⟩
    rw [← paramBytes_eq]
    rfl
  case identity =>
    exact ⟨_, rfl, handOn_reports hhanding hkind (hlength _ rfl) rfl⟩

end Sys2Proof.Machine
end

section
/-! PROOFS. The attention line (R195): what it must be in terms of events, what every command's action does to the Event Unit,
and that every step keeps the line right. -/

namespace Sys2Proof.Machine

/-! ## Events and their bits (R193) -/

/-- The events in bit order (R193). -/
def eventList : List Event :=
  [.confirmed, .restored, .longDone, .transitions, .woken, .lost, .uncovered, .mapFull, .boostFull, .moduleDark, .moduleHot,
    .staleRow, .inputLost, .captureFired, .queueOverflow]

theorem eventList_bits : eventList.map Event.bit = List.range 15 := rfl

theorem Event.bit_lt (e : Event) : e.bit < 15 := by cases e <;> decide

/-- Every bit of an event field is some event's. -/
theorem Event.exists_bit_eq {i : Nat} (h : i < 15) : ∃ e : Event, e.bit = i := by
  have hmem : i ∈ eventList.map Event.bit := by rw [eventList_bits]; exact List.mem_range.mpr h
  obtain ⟨e, -, he⟩ := List.mem_map.mp hmem
  exact ⟨e, he⟩

/-! ## The line R195 wants -/

theorem EventUnit.getLsbD_unmasked (u : EventUnit) (e : Event) :
    (u.bits &&& ~~~u.mask).getLsbD e.bit = (u.pends e && !u.mask.getLsbD e.bit) := by
  simp [EventUnit.pends, e.bit_lt]

/-- The line is wanted exactly while some pending event is unmasked (R195). -/
theorem EventUnit.wanted_iff (u : EventUnit) :
    u.wanted = true ↔ ∃ e : Event, u.pends e = true ∧ u.mask.getLsbD e.bit = false := by
  simp only [EventUnit.wanted, bne_iff_ne]
  constructor
  · intro hne
    by_contra hnone
    refine hne (BitVec.eq_of_getLsbD_eq fun i hi => ?_)
    obtain ⟨e, rfl⟩ := Event.exists_bit_eq hi
    rw [u.getLsbD_unmasked, BitVec.ofNat_eq_ofNat, BitVec.getLsbD_zero, ← Bool.not_eq_true]
    intro hset
    exact hnone ⟨e, by simpa using hset⟩
  · rintro ⟨e, hpends, hmask⟩ hzero
    have hset := u.getLsbD_unmasked e
    simp [hzero, hpends, hmask] at hset

theorem attentionFollows_iff (s : State) : AttentionFollows s ↔ s.events.attention = s.events.wanted := by
  rw [AttentionFollows, ← EventUnit.wanted_iff, ← Bool.eq_iff_iff]

/-- A line just made to follow is the one wanted, whatever it was before (R195). -/
theorem EventUnit.follow_attention (u : EventUnit) : u.follow.attention = u.follow.wanted := rfl

/-! ## Keeping the line -/

/-- Going from `s` to `t`, a line that follows R195 goes on following it. -/
def LineKept (s t : State) : Prop := AttentionFollows s → AttentionFollows t

theorem LineKept.of_events_eq {s t u : State} (h : LineKept s t) (hevents : u.events = t.events) : LineKept s u := by
  intro hs
  rw [attentionFollows_iff, hevents, ← attentionFollows_iff]
  exact h hs

theorem lineKept_of_events_eq {s t : State} (h : t.events = s.events) : LineKept s t := LineKept.of_events_eq id h

theorem lineKept_of_follow {s t : State} (u : EventUnit) (h : t.events = u.follow) : LineKept s t := by
  intro _
  rw [attentionFollows_iff, h, u.follow_attention]

theorem Acts.lineKept {bs : List Block} {s t : State} (h : Acts bs s t) : LineKept s t :=
  fun hs => (attentionFollows_iff t).mpr (h.grows.line ((attentionFollows_iff s).mp hs))

/-- A hand-on keeps the line when the owning block's action does: a reply touches no event (R178). -/
theorem handOn_lineKept {act : List Byte → State → State × Answer} (h : ∀ p s, LineKept s (act p s).1) (kind : Byte)
    (s : State) : LineKept s (handOn kind act s) := by
  obtain hsame | ⟨p, hact⟩ := handOn_events kind act s
  · exact lineKept_of_events_eq hsame
  · exact (h p s).of_events_eq hact

theorem handOn_lineKept_of_acts {bs : List Block} {act : List Byte → State → State × Answer}
    (h : ∀ p s, Acts bs s (act p s).1) (kind : Byte) (s : State) : LineKept s (handOn kind act s) :=
  handOn_lineKept (fun p u => (h p u).lineKept) kind s

/-! ## Actions that only answer -/

/-- An action that only answers leaves the state as it is. -/
def OnlyAnswers (act : List Byte → State → State × Answer) : Prop := ∀ p s, (act p s).1 = s

theorem OnlyAnswers.handOn_lineKept {act : List Byte → State → State × Answer} (h : OnlyAnswers act) (kind : Byte)
    (s : State) : LineKept s (handOn kind act s) :=
  Machine.handOn_lineKept (fun p s => lineKept_of_events_eq (congrArg State.events (h p s))) kind s

theorem actIdentify_onlyAnswers : OnlyAnswers actIdentify := fun _ _ => rfl

theorem actGetParams_onlyAnswers : OnlyAnswers actGetParams := fun _ _ => rfl

theorem actReadCapture_onlyAnswers : OnlyAnswers actReadCapture := fun _ _ => rfl

theorem actGetStatus_onlyAnswers : OnlyAnswers actGetStatus := by
  intro p s
  unfold actGetStatus
  split <;> rfl

theorem actGetLayout_onlyAnswers : OnlyAnswers actGetLayout := by
  intro p s
  unfold actGetLayout
  split <;> rfl

theorem actReadMap_onlyAnswers : OnlyAnswers actReadMap := by
  intro p s
  unfold actReadMap
  split <;> rfl

theorem actReadPlan_onlyAnswers : OnlyAnswers actReadPlan := by
  intro p s
  unfold actReadPlan
  split <;> rfl

/-! ## What each command's action can change -/

section Actions

variable (p : List Byte) (s : State)

theorem layoutClears_acts : Acts [.map, .plan, .scan, .store, .sense] s (layoutClears s) :=
  ((setMap_acts _ _).mono (by decide)).trans
    (((setPlan_acts _ _).mono (by decide)).trans
      (((setScan_acts _ _).mono (by decide)).trans
        (((setStore_acts _ _).mono (by decide)).trans ((setSense_acts _ _).mono (by decide)))))

/-- An accepted layout is stored and clears the tables it governs; a refused one changes nothing (R9 to R12). -/
theorem actSetLayout_acts : Acts [.layout, .map, .plan, .scan, .store, .sense] s (actSetLayout p s).1 := by
  unfold actSetLayout
  split
  · exact Acts.refl _ s
  · split
    · exact Acts.refl _ s
    · exact (setLayout_acts _ _).andThen (layoutClears_acts _) (by decide) (by decide)

/-- A changed F adds a recompute round to the new parameters (R183). -/
theorem actSetParams_acts : Acts (.params :: planBlocks) s (actSetParams p s).1 := by
  have hset : Acts (.params :: planBlocks) s (s.setParams (storedParams p)) := (setParams_acts _ _).mono (by decide)
  unfold actSetParams
  dsimp only
  split
  · exact hset
  · exact hset.trans ((fractionRound_acts _).mono (by decide))

theorem actSurvey_acts : Acts [.sense] s (actSurvey p s).1 := by
  unfold actSurvey
  split
  · exact Acts.refl _ s
  · exact setLong_acts _ s

theorem beginRetest_acts (die : Nat) : Acts dieBlocks s (beginRetest s die) := by
  unfold beginRetest
  split
  · exact Acts.refl _ s
  · exact (putRecord_acts _ _ _).trans (announce_acts _ _ _ _ _ _)

/-- The records in scope are turned one by one; with none, the command ends at once (R96). -/
theorem actRetest_acts : Acts dieBlocks s (actRetest p s).1 := by
  have hturned : ∀ (dies : List Nat) (l : LongSlot), Acts dieBlocks s (setLong l (dies.foldl beginRetest s)) :=
    fun dies l => (Acts.foldl beginRetest_acts dies s).trans ((setLong_acts l _).mono (by decide))
  unfold actRetest
  split
  · exact Acts.refl _ s
  · dsimp only
    split
    · exact (hturned _ _).trans
        (((endLong_acts _ _).mono (by decide)).trans ((raise_acts _ _).mono (by decide)))
    · exact hturned _ _

theorem actHalt_acts : Acts dieBlocks s (actHalt p s).1 := by
  unfold actHalt
  split
  · exact (stopLong_acts _ s).trans ((raise_acts _ _).mono (by decide))
  · exact Acts.refl _ s

theorem pinRecord_acts (die : Nat) (x : RecordState) (r : DefectRecord) : Acts dieBlocks s (pinRecord die x r s) := by
  unfold pinRecord
  split
  · exact Acts.refl _ s
  · exact (putRecord_acts _ _ _).trans (announce_acts _ _ _ _ _ _)

/-- A pin changes the die's record, or makes room for a new one (R122). -/
theorem acceptPin_acts (die : Nat) (x : RecordState) : Acts dieBlocks s (acceptPin die x s).1 := by
  unfold acceptPin
  split
  · exact pinRecord_acts _ _ _ _
  · split
    · exact Acts.refl _ s
    · rename_i hroom
      dsimp only
      exact (makeRoom_acts hroom).trans ((putRecord_acts _ _ _).trans (announce_acts _ _ _ _ _ _))

theorem actPin_acts : Acts dieBlocks s (actPin p s).1 := by
  unfold actPin
  split
  · exact Acts.refl _ s
  · split
    · exact Acts.refl _ s
    · split
      · exact Acts.refl _ s
      · exact acceptPin_acts _ _ _

theorem actUnpin_acts : Acts dieBlocks s (actUnpin p s).1 := by
  unfold actUnpin
  split
  · exact Acts.refl _ s
  · split
    · exact Acts.refl _ s
    · split
      · exact Acts.refl _ s
      · split
        · exact Acts.refl _ s
        · dsimp only
          exact (dropRecord_acts _ _).trans (announce_acts _ _ _ _ _ _)

theorem loadRecord_acts (die : Nat) (f : DieFault) (r : DefectRecord) : Acts dieBlocks s (loadRecord die f r s) :=
  (putRecord_acts _ _ _).trans (announce_acts _ _ _ _ _ _)

/-- A RESTORE acts on a record that is not pinned or confirmed, or makes room for a new one (R124). -/
theorem acceptRestore_acts (die : Nat) (f : DieFault) : Acts dieBlocks s (acceptRestore die f s).1 := by
  unfold acceptRestore
  split
  · rename_i r _
    cases r.state with
    | suspect => exact loadRecord_acts _ _ _ _
    | retest => exact loadRecord_acts _ _ _ _
    | confirmed => exact Acts.refl _ s
    | pinnedDead => exact Acts.refl _ s
    | pinnedGood => exact Acts.refl _ s
  · split
    · exact Acts.refl _ s
    · rename_i hroom
      dsimp only
      exact (makeRoom_acts hroom).trans ((putRecord_acts _ _ _).trans (announce_acts _ _ _ _ _ _))

theorem actRestore_acts : Acts dieBlocks s (actRestore p s).1 := by
  unfold actRestore
  split
  · exact Acts.refl _ s
  · split
    · exact Acts.refl _ s
    · split
      · exact Acts.refl _ s
      · exact acceptRestore_acts _ _ _

theorem actReadTransitions_acts : Acts [.map] s (actReadTransitions p s).1 := setMap_acts _ _

theorem actArmCapture_acts : Acts [.capture] s (actArmCapture p s).1 := by
  unfold actArmCapture
  split
  · exact Acts.refl _ s
  · exact setCapture_acts _ _

theorem actDisarm_acts : Acts [.capture] s (actDisarm p s).1 := setCapture_acts _ _

theorem actReleaseHold_acts : Acts (.capture :: planBlocks) s (actReleaseHold p s).1 := by
  unfold actReleaseHold
  split
  · exact Acts.refl _ s
  · exact (setCapture_acts _ _).andThen (releaseRound_acts _) (by decide) (by decide)

theorem actStandby_acts : Acts [.scan] s (actStandby p s).1 := by
  unfold actStandby
  split
  · exact Acts.refl _ s
  · exact setScan_acts _ _

theorem actWake_acts : Acts passBlocks s (actWake p s).1 := by
  unfold actWake
  split
  · exact Acts.refl _ s
  · exact wakeDisplay_acts s

/-- Clearing the counters clears no event, so it counts as growth (R200). -/
theorem EventUnit.countersCleared_grows (u : EventUnit) : u.Grows u.countersCleared := ⟨rfl, fun _ h => h, fun h => h⟩

theorem actReadCounters_acts : Acts [.events] s (actReadCounters p s).1 := by
  unfold actReadCounters
  split
  · exact Acts.refl _ s
  · exact setEvents_acts _ _ s.events.countersCleared_grows
  · exact Acts.refl _ s

/-! ## The actions that clear events or change the mask end by making the line follow -/

theorem actReadEvents_lineKept : LineKept s (actReadEvents p s).1 := lineKept_of_follow _ rfl

theorem actSetMask_lineKept : LineKept s (actSetMask p s).1 := lineKept_of_follow _ rfl

theorem actRestart_lineKept : LineKept s (actRestart p s).1 := lineKept_of_follow _ rfl

end Actions

/-! ## The commands that hand no known message on -/

section Commands

variable (s : State)

theorem handOnUnknown_acts : Acts [.control] s (handOnUnknown s) := by
  unfold handOnUnknown
  split
  · exact Acts.refl _ s
  · split
    · exact formReply_acts _ _ _ s
    · exact Acts.refl _ s

theorem payOwedReply_acts : Acts [.control] s (payOwedReply s) := by
  unfold payOwedReply
  split
  · exact Acts.refl _ s
  · exact formReply_acts _ _ _ s

/-- Entry to STANDBY pays the owed reply beside what falling asleep does (R64). -/
theorem enterStandby_acts : Acts ([.scan, .input, .store, .control] ++ dieBlocks) s (enterStandby s) := by
  have hasleep : Acts ([.scan, .input, .store, .control] ++ dieBlocks) s (fallAsleep s) :=
    (fallAsleep_acts s).mono (by decide)
  unfold enterStandby
  dsimp only
  split
  · exact hasleep.trans ((payOwedReply_acts _).mono (by decide))
  · exact hasleep

theorem endPass_acts : Acts ([.scan, .input, .store, .control] ++ dieBlocks) s (endPass s) := by
  unfold endPass
  split
  · split
    · exact enterStandby_acts s
    · exact (enterGap_acts s).mono (by decide)
  · exact Acts.refl _ s

/-- After power-on no event pends and the line is released, whatever it was (R192). -/
theorem attentionFollows_of_powerOn (h : s.events = EventUnit.powerOn) : AttentionFollows s := by
  rw [attentionFollows_iff, h]
  decide

end Commands

/-! ## Every step -/

/-- Every command keeps the line: most only raise events or leave them, READ_EVENTS, SET_MASK and RESTART end by making the
line follow, and POWER_ON sets the whole unit (R195). -/
theorem exec_lineKept {c : Instr} {s t : State} (h : exec c s = .next t) : LineKept s t := by
  cases c <;> obtain rfl := Host.Outcome.next.inj h
  case powerOn => exact fun _ => attentionFollows_of_powerOn _ rfl
  case controlCharacter ch stopBit => exact (takeCharacter_acts ch stopBit s).lineKept
  case replySent => exact (sendReply_acts s).lineKept
  case unknownKind => exact (handOnUnknown_acts s).lineKept
  case identify => exact actIdentify_onlyAnswers.handOn_lineKept _ s
  case getStatus => exact actGetStatus_onlyAnswers.handOn_lineKept _ s
  case setLayout => exact handOn_lineKept_of_acts actSetLayout_acts _ s
  case getLayout => exact actGetLayout_onlyAnswers.handOn_lineKept _ s
  case setParams => exact handOn_lineKept_of_acts actSetParams_acts _ s
  case getParams => exact actGetParams_onlyAnswers.handOn_lineKept _ s
  case survey => exact handOn_lineKept_of_acts actSurvey_acts _ s
  case retest => exact handOn_lineKept_of_acts actRetest_acts _ s
  case halt => exact handOn_lineKept_of_acts actHalt_acts _ s
  case pin => exact handOn_lineKept_of_acts actPin_acts _ s
  case unpin => exact handOn_lineKept_of_acts actUnpin_acts _ s
  case restore => exact handOn_lineKept_of_acts actRestore_acts _ s
  case readMap => exact actReadMap_onlyAnswers.handOn_lineKept _ s
  case readTransitions => exact handOn_lineKept_of_acts actReadTransitions_acts _ s
  case readPlan => exact actReadPlan_onlyAnswers.handOn_lineKept _ s
  case armCapture => exact handOn_lineKept_of_acts actArmCapture_acts _ s
  case disarm => exact handOn_lineKept_of_acts actDisarm_acts _ s
  case readCapture => exact actReadCapture_onlyAnswers.handOn_lineKept _ s
  case releaseHold => exact handOn_lineKept_of_acts actReleaseHold_acts _ s
  case standby => exact handOn_lineKept_of_acts actStandby_acts _ s
  case wake => exact handOn_lineKept_of_acts actWake_acts _ s
  case restart => exact handOn_lineKept actRestart_lineKept _ s
  case readEvents => exact handOn_lineKept actReadEvents_lineKept _ s
  case setMask => exact handOn_lineKept actSetMask_lineKept _ s
  case readCounters => exact handOn_lineKept_of_acts actReadCounters_acts _ s
  case linkByte b => exact (takeLinkByte_acts b s).lineKept
  case lossOfSignal => exact (takeLossOfSignal_acts s).lineKept
  case lightRow => exact (lightRow_acts s).lineKept
  case passEnd => exact (endPass_acts s).lineKept
  case gapEnd => exact (endGap_acts s).lineKept
  case gapTestAnswer test result hot => exact (takeAnswer_acts test result hot s).lineKept
  case liveShortReport die => exact (liveShort_acts die s).lineKept

/-- Settles O54: the idle step changes nothing, and taking a command off the queue touches no event. -/
theorem attentionFollowsEveryStep : Obligations.AttentionFollowsEveryStep := by
  intro s t hs hstep
  unfold step at hstep
  split at hstep
  · obtain rfl := Host.Outcome.next.inj hstep
    exact hs
  · exact exec_lineKept hstep hs

end Sys2Proof.Machine
end

section
/-! PROOFS. READ_EVENTS, SET_MASK and READ_COUNTERS (R196, R197, R200), and what counting an occurrence does (R199). -/

namespace Sys2Proof.Machine

/-! ## Hand-ons that change the Event Unit alone, or refuse -/

theorem setEvents_only (s : State) (x : EventUnit) : OnlyChanges [.events] s (s.setEvents x) := by
  intro b hb
  cases b
  case events => exact absurd (List.mem_singleton.mpr rfl) hb
  all_goals rfl

section HandOn

variable {s : State} {m : Message} {rest : List Message} {kind : Byte} {act : List Byte → State → State × Answer}

/-- When the owning block only replaces the Event Unit and answers OK, the hand-on adds the reply and nothing else
(R178, R180). -/
theorem handOn_setsEvents {x : EventUnit} {data : List Byte} (h : Handing s m rest) (hkind : m.kind = kind)
    (hlength : m.payload.length ∈ (payloadLengths kind).getD []) (hact : act m.payload s = (s.setEvents x, .ok data)) :
    (handOn kind act s).events = x ∧ Answered s (handOn kind act s) m rest (0 :: data) ∧
      OnlyChanges [.events, .control] s (handOn kind act s) := by
  rw [handOn_of_ok h hkind hlength hact]
  exact ⟨rfl, formReply_answered h rfl .ok data,
    ((setEvents_only s x).mono (by decide)).trans ((formReply_acts m .ok data _).only.mono (by decide))⟩

/-- When the owning block refuses and changes nothing, the reply carries the status alone (R180). -/
theorem handOn_refuses {st : Status} (h : Handing s m rest) (hkind : m.kind = kind)
    (hlength : m.payload.length ∈ (payloadLengths kind).getD []) (hact : act m.payload s = (s, .refuse st)) :
    Answered s (handOn kind act s) m rest [st.code] ∧ OnlyChanges [.control] s (handOn kind act s) := by
  have hreply : handOn kind act s = formReply m st [] s := by rw [handOn_of_handing h hkind hlength, hact]; rfl
  rw [hreply]
  exact ⟨formReply_answered h rfl st [], (formReply_acts m st [] s).only⟩

end HandOn

/-! ## READ_EVENTS and SET_MASK -/

theorem EventUnit.wanted_eq (u : EventUnit) : u.wanted = decide (u.bits &&& ~~~u.mask ≠ 0) := by
  simp [EventUnit.wanted, bne, beq_eq_decide]

/-- The clear empties the bits of its events, and the line is the one then wanted (R196). -/
theorem EventUnit.cleared_eq (u : EventUnit) (clear : BitVec 15) :
    u.cleared clear =
      { u with bits := u.bits &&& ~~~clear, attention := decide (u.bits &&& ~~~clear &&& ~~~u.mask ≠ 0) } := by
  simp only [EventUnit.cleared, EventUnit.follow, EventUnit.wanted_eq]

/-- The whole mask is replaced, and the line is the one then wanted (R197). -/
theorem EventUnit.masked_eq (u : EventUnit) (mask : BitVec 15) :
    u.masked mask = { u with mask := mask, attention := decide (u.bits &&& ~~~mask ≠ 0) } := by
  simp only [EventUnit.masked, EventUnit.follow, EventUnit.wanted_eq]

theorem sentEvents_pair (lo hi : Byte) : sentEvents [lo, hi] = BitVec.ofNat 15 (lo.toNat + 256 * hi.toNat) := rfl

theorem clearMask_nil : clearMask [] = BitVec.allOnes 15 := rfl

theorem clearMask_pair (lo hi : Byte) : clearMask [lo, hi] = BitVec.ofNat 15 (lo.toNat + 256 * hi.toNat) := rfl

/-- READ_EVENTS's action, its three flags written as a number (R196). -/
theorem actReadEvents_eq (p : List Byte) (s : State) :
    actReadEvents p s = (s.setEvents (s.events.cleared (clearMask p)),
      .ok (bytesOf 2 s.events.bits.toNat ++ bytesOf 2 s.events.mask.toNat ++
        [byteOf ((if s.events.bits &&& 0x001F#15 ≠ 0 then 1 else 0) + (if s.events.bits &&& 0x7FE0#15 ≠ 0 then 2 else 0) +
          (if (s.events.cleared (clearMask p)).attention then 4 else 0))])) := by
  simp only [actReadEvents, packBits_three, decide_eq_true_eq]

theorem actSetMask_eq (p : List Byte) (s : State) :
    actSetMask p s = (s.setEvents (s.events.masked (sentEvents p)),
      .ok (bytesOf 2 (sentEvents p).toNat ++ [flagByte (s.events.masked (sentEvents p)).attention])) := rfl

/-- Settles O52: both actions replace the Event Unit alone, by `EventUnit.cleared` and `EventUnit.masked`. -/
theorem eventsAreReadAndMasked : Obligations.EventsAreReadAndMasked := by
  refine ⟨rfl, fun s m rest p hhanding hpayload => ?_⟩
  subst hpayload
  refine ⟨fun clear hkind hclear => ?read, fun lo hi hkind hmask => ?mask⟩
  case read =>
    have hshape : m.payload.length ∈ (payloadLengths 0x38).getD [] ∧ clearMask m.payload = clear := by
      obtain ⟨hempty, rfl⟩ | ⟨lo, hi, hpair, rfl⟩ := hclear
      · rw [hempty]; exact ⟨by decide, clearMask_nil⟩
      · rw [hpair]; exact ⟨by simp [payloadLengths], clearMask_pair lo hi⟩
    obtain ⟨hlength, hsent⟩ := hshape
    obtain ⟨hevents, hanswered, honly⟩ :=
      handOn_setsEvents hhanding hkind hlength (actReadEvents_eq m.payload s)
    rw [hsent, EventUnit.cleared_eq] at hevents hanswered
    exact ⟨_, rfl, hevents, by simpa using hanswered, honly⟩
  case mask =>
    have hlength : m.payload.length ∈ (payloadLengths 0x39).getD [] := by simp [hmask, payloadLengths]
    obtain ⟨hevents, hanswered, honly⟩ := handOn_setsEvents hhanding hkind hlength (actSetMask_eq m.payload s)
    rw [hmask, sentEvents_pair, EventUnit.masked_eq] at hevents hanswered
    exact ⟨_, rfl, hevents, hanswered, honly⟩

/-! ## Counting (R198, R199) -/

/-- The counters in code order (R198). -/
def counterList : List Counter :=
  [.framesClosed, .framesCut, .framesGeometry, .framesIgnored, .rowsBad, .rowsSuperseded, .seqGaps, .symbolErrors,
    .rowsBlanked, .clipPasses, .tests, .patrolCycles, .hotDiscards, .transients, .confirmations, .evictions, .mapFullDrops,
    .boostDrops, .pinnedShorts, .transitionOverflow, .captureOverwrites, .ctlBadFrame, .ctlOverrun]

theorem counterList_code (c : Counter) : counterList[c.code.val]? = some c := by cases c <;> rfl

/-- No two counters share a code. -/
theorem Counter.code_injective : Function.Injective Counter.code := by
  intro c d h
  have hsome : some c = some d := by rw [← counterList_code c, ← counterList_code d, h]
  exact Option.some.inj hsome

section Counted

variable (u : EventUnit) (c : Counter)

theorem EventUnit.counted_counter_self : (u.counted c).counter c = u.counter c + 1 := by
  simp [EventUnit.counter, EventUnit.counted]

theorem EventUnit.counted_counter_of_ne {d : Counter} (h : d ≠ c) : (u.counted c).counter d = u.counter d := by
  have hcode : c.code.val ≠ d.code.val := fun heq => h (Counter.code_injective (Fin.ext heq.symm))
  exact Vector.getElem_set_ne c.code.isLt d.code.isLt hcode

/-- A count sets the flag of its own counter when that counter stood at 65535, and touches no other flag (R199). -/
theorem EventUnit.counted_overflowed (d : Counter) :
    (u.counted c).overflowed d = (u.overflowed d || (decide (d = c) && decide (u.counter c = 65535))) := by
  have hflag : (BitVec.twoPow 23 c.code).getLsbD d.code = decide (d = c) := by
    rw [BitVec.getLsbD_twoPow, decide_eq_true c.code.isLt, Bool.true_and, decide_eq_decide, Fin.val_inj,
      Counter.code_injective.eq_iff, eq_comm]
  simp only [EventUnit.overflowed, EventUnit.counted]
  by_cases hwrap : u.counter c = 65535
  · rw [if_pos hwrap, BitVec.getLsbD_or, hflag, decide_eq_true hwrap, Bool.and_true]
  · rw [if_neg hwrap, decide_eq_false hwrap, Bool.and_false, Bool.or_false]

end Counted

/-! ## READ_COUNTERS (R200) -/

section ReadCounters

variable {p : List Byte} (s : State)

theorem actReadCounters_of_zero (h : p = [0]) : actReadCounters p s = (s, .ok (counterBytes s.events)) := by
  subst h; rfl

theorem actReadCounters_of_one (h : p = [1]) :
    actReadCounters p s = (s.setEvents s.events.countersCleared, .ok (counterBytes s.events)) := by
  subst h; rfl

/-- Any byte but 0 and 1 is a bad argument. -/
theorem actReadCounters_of_other {b : Byte} (h : p = [b]) (h0 : b ≠ 0) (h1 : b ≠ 1) :
    actReadCounters p s = (s, .refuse .badArg) := by
  subst h
  unfold actReadCounters
  split
  case h_1 hzero => exact absurd (BitVec.eq_of_toNat_eq (y := 0) hzero) h0
  case h_2 hone => exact absurd (BitVec.eq_of_toNat_eq (y := 1) hone) h1
  case h_3 => rfl

end ReadCounters

/-- Settles O53: the codes by the table, a count by the equations of `EventUnit.counted`, and READ_COUNTERS by its byte. -/
theorem countersWrapAndAreRead : Obligations.CountersWrapAndAreRead := by
  refine ⟨rfl, fun s c => ?counts, fun s m rest b hhanding hkind hpayload => ?reads⟩
  case counts =>
    refine ⟨s.events.counted_counter_self c, ?self, fun d hd => ⟨s.events.counted_counter_of_ne c hd, ?other⟩, rfl, rfl, rfl⟩
    case self => simp [EventUnit.counted_overflowed]
    case other => simp [EventUnit.counted_overflowed, hd]
  case reads =>
    have hlength : m.payload.length ∈ (payloadLengths 0x3A).getD [] := by simp [hpayload, payloadLengths]
    refine ⟨fun hzero => ?keep, fun hone => ?clear, fun h0 h1 => ?refuse⟩
    case keep =>
      exact ⟨_, rfl, handOn_reports hhanding hkind hlength (actReadCounters_of_zero s (by rw [hpayload, hzero]))⟩
    case clear =>
      obtain ⟨hevents, hanswered, honly⟩ :=
        handOn_setsEvents hhanding hkind hlength (actReadCounters_of_one s (by rw [hpayload, hone]))
      exact ⟨_, rfl, hanswered, hevents, honly⟩
    case refuse =>
      exact ⟨_, rfl, handOn_refuses hhanding hkind hlength (actReadCounters_of_other s hpayload h0 h1)⟩

end Sys2Proof.Machine
end


section
/-! PROOFS. What announcing a transition leaves alone (R108), and what every command can do to the records of the Defect Map:
the edits of `RecordEdits`, from which each claim about the records follows. -/

namespace Sys2Proof.Machine

/-! ## Fields a round and an announcement leave alone -/

section Round
variable (a b : List Nat) (s : State)
@[simp] theorem takeRound_pending : (takeRound a b s).pending = s.pending := (takeRound_acts a b s).only.pending
@[simp] theorem takeRound_layout : (takeRound a b s).layout = s.layout := (takeRound_acts a b s).only.layout
@[simp] theorem takeRound_scan : (takeRound a b s).scan = s.scan := (takeRound_acts a b s).only.scan
@[simp] theorem takeRound_sense : (takeRound a b s).sense = s.sense := (takeRound_acts a b s).only.sense
@[simp] theorem takeRound_map : (takeRound a b s).map = s.map := (takeRound_acts a b s).only.map
@[simp] theorem takeRound_capture : (takeRound a b s).capture = s.capture := (takeRound_acts a b s).only.capture
@[simp] theorem takeRound_params : (takeRound a b s).params = s.params := (takeRound_acts a b s).only.params
@[simp] theorem takeRound_control : (takeRound a b s).control = s.control := (takeRound_acts a b s).only.control
@[simp] theorem takeRound_store : (takeRound a b s).store = s.store := (takeRound_acts a b s).only.store
@[simp] theorem takeRound_input : (takeRound a b s).input = s.input := (takeRound_acts a b s).only.input
end Round

theorem offerCapture_map (t : Transition) (s : State) : (offerCapture t s).map = s.map := (offerCapture_acts t s).only.map

theorem kindEffects_map (k : TransitionKind) (s : State) : (kindEffects k s).map = s.map := (kindEffects_acts k s).only.map

theorem retestLeft_map (k : TransitionKind) (s : State) : (retestLeft k s).map = s.map := (retestLeft_acts k s).only.map

/-- Appending a transition leaves the records as they are. -/
@[simp] theorem appendTransition_records (t : Transition) (s : State) :
    (appendTransition t s).map.records = s.map.records := by
  unfold appendTransition
  dsimp only
  split
  · split <;> rfl
  · rfl

section Announce
variable (k : TransitionKind) (d : Nat) (f : DieFault) (a b : Bool) (s : State)

/-- Past the log, an announcement leaves the Defect Map as it is. -/
theorem announce_map :
    (announce k d f a b s).map =
      (appendTransition { kind := k, die := d, fault := f, pass := s.scan.passNumber } s).map := by
  unfold announce standingRound
  cases a <;> cases b <;> simp [retestLeft_map, offerCapture_map, kindEffects_map]

@[simp] theorem announce_records : (announce k d f a b s).map.records = s.map.records := by
  rw [announce_map, appendTransition_records]

@[simp] theorem announce_pending : (announce k d f a b s).pending = s.pending := (announce_acts k d f a b s).only.pending
@[simp] theorem announce_layout : (announce k d f a b s).layout = s.layout := (announce_acts k d f a b s).only.layout
@[simp] theorem announce_scan : (announce k d f a b s).scan = s.scan := (announce_acts k d f a b s).only.scan
@[simp] theorem announce_params : (announce k d f a b s).params = s.params := (announce_acts k d f a b s).only.params
@[simp] theorem announce_control : (announce k d f a b s).control = s.control := (announce_acts k d f a b s).only.control

/-- A transition that did not leave RETEST tells the Sense Unit nothing. -/
@[simp] theorem announce_sense_of_stayed : (announce k d f a false s).sense = s.sense := by
  have hlog : ∀ t, (offerCapture t (kindEffects k (appendTransition t s))).sense = s.sense := fun t =>
    ((offerCapture_acts t _).only.sense).trans
      (((kindEffects_acts k _).only.sense).trans (appendTransition_acts t s).only.sense)
  unfold announce standingRound
  cases a <;> simp [hlog]

/-- A transition that leaves the die's standing as it was tells the planner nothing. -/
@[simp] theorem announce_plan_of_unchanged : (announce k d f false b s).plan = s.plan := by
  have hlog : ∀ t, (offerCapture t (kindEffects k (appendTransition t s))).plan = s.plan := fun t =>
    ((offerCapture_acts t _).only.plan).trans
      (((kindEffects_acts k _).only.plan).trans (appendTransition_acts t s).only.plan)
  have hleft : ∀ u, (retestLeft k u).plan = u.plan := fun u => (retestLeft_acts k u).only.plan
  unfold announce
  cases b <;> simp [hlog, hleft]

end Announce

section PutDrop
variable (d : Nat) (r : DefectRecord) (s : State)
@[simp] theorem putRecord_records : (putRecord d r s).map.records = Table.store s.map.records d r := rfl
@[simp] theorem putRecord_queue : (putRecord d r s).map.queue = s.map.queue := rfl
@[simp] theorem putRecord_scan : (putRecord d r s).scan = s.scan := rfl
@[simp] theorem putRecord_layout : (putRecord d r s).layout = s.layout := rfl
@[simp] theorem putRecord_params : (putRecord d r s).params = s.params := rfl
@[simp] theorem putRecord_sense : (putRecord d r s).sense = s.sense := rfl
@[simp] theorem putRecord_plan : (putRecord d r s).plan = s.plan := rfl
@[simp] theorem putRecord_capture : (putRecord d r s).capture = s.capture := rfl
@[simp] theorem putRecord_events : (putRecord d r s).events = s.events := rfl
@[simp] theorem putRecord_control : (putRecord d r s).control = s.control := rfl
@[simp] theorem dropRecord_records : (dropRecord d s).map.records = Table.discard s.map.records d := rfl
@[simp] theorem dropRecord_queue : (dropRecord d s).map.queue = s.map.queue := rfl
@[simp] theorem dropRecord_scan : (dropRecord d s).scan = s.scan := rfl
@[simp] theorem dropRecord_layout : (dropRecord d s).layout = s.layout := rfl
@[simp] theorem dropRecord_params : (dropRecord d s).params = s.params := rfl
@[simp] theorem dropRecord_sense : (dropRecord d s).sense = s.sense := rfl
@[simp] theorem dropRecord_plan : (dropRecord d s).plan = s.plan := rfl
@[simp] theorem dropRecord_capture : (dropRecord d s).capture = s.capture := rfl
@[simp] theorem dropRecord_events : (dropRecord d s).events = s.events := rfl
@[simp] theorem dropRecord_control : (dropRecord d s).control = s.control := rfl
end PutDrop

/-! ## Members of a sparse table -/

section Members
variable {α : Type} {t : Table α} {k : Nat} {v : α}

/-- The entries of a stored table are the stored one and entries that were there. -/
theorem Table.mem_store {e : Nat × α} (h : e ∈ Table.store t k v) : e = (k, v) ∨ e ∈ t := by
  induction t with
  | nil => exact Or.inl (List.mem_singleton.mp h)
  | cons f t ih =>
    obtain ⟨k', v'⟩ := f
    simp only [Table.store] at h
    split at h
    · exact List.mem_cons.mp h
    · split at h
      · exact (List.mem_cons.mp h).imp_right (List.mem_cons_of_mem _)
      · obtain rfl | h := List.mem_cons.mp h
        · exact Or.inr List.mem_cons_self
        · exact (ih h).imp_right (List.mem_cons_of_mem _)

theorem Table.mem_of_fetch (h : Table.fetch t k = some v) : (k, v) ∈ t := by
  induction t with
  | nil => simp at h
  | cons f t ih =>
    obtain ⟨k', v'⟩ := f
    simp only [Table.fetch] at h
    split at h
    · next heq => obtain rfl := Option.some.inj h; subst heq; exact List.mem_cons_self
    · exact List.mem_cons_of_mem _ (ih h)

/-- In a canonical table an entry is what reading its key gives. -/
theorem Table.fetch_of_mem (hc : Table.canonical t = true) (h : (k, v) ∈ t) : Table.fetch t k = some v := by
  rw [Table.canonical_iff] at hc
  induction t with
  | nil => simp at h
  | cons f t ih =>
    obtain ⟨k', v'⟩ := f
    obtain ⟨hlt, hc⟩ := List.pairwise_cons.mp hc
    obtain heq | h := List.mem_cons.mp h
    · obtain ⟨rfl, rfl⟩ := Prod.mk.inj heq; simp [Table.fetch]
    · have hne : k ≠ k' := by have := hlt _ h; simp only at this; omega
      simp [Table.fetch, hne, ih hc h]

theorem Table.fetch_eq_some_iff (hc : Table.canonical t = true) : Table.fetch t k = some v ↔ (k, v) ∈ t :=
  ⟨Table.mem_of_fetch, Table.fetch_of_mem hc⟩

/-- A key that is listed is no longer so once discarded: the table is shorter. -/
theorem Table.length_discard_lt (h : (k, v) ∈ t) : (Table.discard t k).length < t.length :=
  List.length_filter_lt_length_iff_exists.mpr ⟨_, h, by simp⟩

end Members

/-! ## The edits commands make to the records -/

/-- The counts `r'` may take when it replaces `r`: none open, or a window that goes on, of at most `w` tests. -/
def DefectRecord.Renews (w : Nat) (r r' : DefectRecord) : Prop :=
  (r'.hits = 0 ∧ r'.passes = 0) ∨
    (r'.state = r.state ∧ (r.state = .suspect ∨ r.state = .retest) ∧ (r.hits ≤ r.passes → r'.hits ≤ r'.passes) ∧
      r'.passes ≤ w)

/-- The counts a record is created with: none open, or a window of one hit. -/
def DefectRecord.Fresh (r : DefectRecord) : Prop :=
  (r.hits = 0 ∧ r.passes = 0) ∨ (r.state = .suspect ∧ r.hits = 1 ∧ r.passes = 1)

/-- What commands do to the records, from `t` to the second table: they drop, renew, and create records, the last only for
dies that satisfy `ok` and, from a map that keeps its capacity, only where there is room (R107, R119). -/
inductive RecordEdits (w : Nat) (ok : Nat → Prop) (t : Table DefectRecord) : Table DefectRecord → Prop where
  | refl : RecordEdits w ok t t
  | drop {u : Table DefectRecord} (d : Nat) (h : RecordEdits w ok t u) : RecordEdits w ok t (Table.discard u d)
  | renew {u : Table DefectRecord} {d : Nat} {r r' : DefectRecord} (h : RecordEdits w ok t u)
      (hr : Table.fetch u d = some r) (hnew : r.Renews w r') : RecordEdits w ok t (Table.store u d r')
  | create {u : Table DefectRecord} {d : Nat} {r : DefectRecord} (h : RecordEdits w ok t u) (hok : ok d)
      (hroom : Table.canonical t = true → t.length ≤ 1024 → u.length < 1024) (hnew : r.Fresh) :
      RecordEdits w ok t (Table.store u d r)

namespace RecordEdits

variable {w : Nat} {ok : Nat → Prop} {t u v : Table DefectRecord}

/-- The edits keep the canonical form and the capacity of the map (R104). -/
theorem fits (h : RecordEdits w ok t u) (hc : Table.canonical t = true) (hlen : t.length ≤ 1024) :
    Table.canonical u = true ∧ u.length ≤ 1024 := by
  induction h with
  | refl => exact ⟨hc, hlen⟩
  | drop d _ ih => exact ⟨Table.canonical_discard d ih.1, (Table.length_discard_le _ d).trans ih.2⟩
  | renew _ hr _ ih => exact ⟨Table.canonical_store _ _ ih.1, (Table.length_store_of_some _ hr ih.1).trans_le ih.2⟩
  | create _ _ hroom _ ih =>
    exact ⟨Table.canonical_store _ _ ih.1, (Table.length_store_le _ _ _).trans (hroom hc hlen)⟩

theorem trans (h : RecordEdits w ok t u) (k : RecordEdits w ok u v) : RecordEdits w ok t v := by
  induction k with
  | refl => exact h
  | drop d _ ih => exact ih.drop d
  | renew _ hr hnew ih => exact ih.renew hr hnew
  | create _ hok hroom hnew ih =>
    exact ih.create hok (fun hc hlen => hroom (h.fits hc hlen).1 (h.fits hc hlen).2) hnew

/-- Every record is for a die that may have one created, or for one that had one. -/
theorem keys (h : RecordEdits w ok t u) : ∀ e ∈ u, ok e.1 ∨ ∃ f ∈ t, f.1 = e.1 := by
  induction h with
  | refl => exact fun e he => Or.inr ⟨e, he, rfl⟩
  | drop d _ ih => exact fun e he => ih e (List.mem_filter.mp he).1
  | renew _ hr _ ih =>
    intro e he
    obtain rfl | he := Table.mem_store he
    · have hkey := ih _ (Table.mem_of_fetch hr)
      exact hkey
    · exact ih e he
  | create _ hok _ _ ih =>
    intro e he
    obtain rfl | he := Table.mem_store he
    · exact Or.inl hok
    · exact ih e he

end RecordEdits

/-- The part of `RecordCountsSound` about one record. -/
def DefectRecord.CountsSound (r : DefectRecord) : Prop :=
  r.hits ≤ r.passes ∧ r.passes ≤ 15 ∧ (r.state ≠ .suspect → r.state ≠ .retest → r.hits = 0 ∧ r.passes = 0)

theorem DefectRecord.countsSound_of_none {r : DefectRecord} (h : r.hits = 0 ∧ r.passes = 0) : r.CountsSound := by
  obtain ⟨hhits, hpasses⟩ := h
  exact ⟨by omega, by omega, fun _ _ => ⟨hhits, hpasses⟩⟩

/-- The edits keep every record's counts sound while the window is at most 15 long (R110). -/
theorem RecordEdits.countsSound {w : Nat} {ok : Nat → Prop} {t u : Table DefectRecord} (h : RecordEdits w ok t u)
    (hw : w ≤ 15) (ht : ∀ e ∈ t, e.2.CountsSound) : ∀ e ∈ u, e.2.CountsSound := by
  induction h with
  | refl => exact ht
  | drop d _ ih => exact fun e he => ih e (List.mem_filter.mp he).1
  | renew _ hr hnew ih =>
    intro e he
    obtain rfl | he := Table.mem_store he
    · obtain ⟨hle, -, -⟩ := ih _ (Table.mem_of_fetch hr)
      obtain hnone | ⟨hstate, hopen, hkept, hpasses⟩ := hnew
      · exact DefectRecord.countsSound_of_none hnone
      · refine ⟨hkept hle, hpasses.trans hw, fun hsuspect hretest => ?_⟩
        rw [hstate] at hsuspect hretest
        exact absurd hopen (not_or.mpr ⟨hsuspect, hretest⟩)
    · exact ih e he
  | create _ _ _ hnew ih =>
    intro e he
    obtain rfl | he := Table.mem_store he
    · obtain hnone | ⟨hstate, hhits, hpasses⟩ := hnew
      · exact DefectRecord.countsSound_of_none hnone
      · exact ⟨(hhits.trans hpasses.symm).le, hpasses.trans_le (by decide), fun hsuspect => absurd hstate hsuspect⟩
    · exact ih e he

/-- Going from `s` to `t` the records are edited by `RecordEdits` under the window length of `s`, which stays. -/
structure EditsRecords (ok : Nat → Prop) (s t : State) : Prop where
  params : t.params = s.params
  records : RecordEdits s.params.w ok s.map.records t.map.records

namespace EditsRecords

variable {ok : Nat → Prop} {s t u : State}

theorem refl (s : State) : EditsRecords ok s s := ⟨rfl, .refl⟩

theorem trans (h : EditsRecords ok s t) (k : EditsRecords ok t u) : EditsRecords ok s u :=
  ⟨k.params.trans h.params, h.records.trans (h.params ▸ k.records)⟩

theorem of_eq (hparams : t.params = s.params) (hmap : t.map.records = s.map.records) : EditsRecords ok s t :=
  ⟨hparams, hmap ▸ .refl⟩

/-- What follows the edits may change every other block. -/
theorem andSame (h : EditsRecords ok s t) (hparams : u.params = t.params := by rfl)
    (hmap : u.map.records = t.map.records := by rfl) : EditsRecords ok s u := h.trans (of_eq hparams hmap)

theorem of_acts {bs : List Block} (h : Acts bs s t) (hmap : Block.map ∉ bs := by decide)
    (hparams : Block.params ∉ bs := by decide) : EditsRecords ok s t :=
  of_eq (h.only .params hparams) (congrArg DefectMap.records (h.only .map hmap))

theorem foldl {β : Type} {f : State → β → State} (h : ∀ s x, EditsRecords ok s (f s x)) (l : List β) (s : State) :
    EditsRecords ok s (l.foldl f s) := by
  induction l generalizing s with
  | nil => exact refl s
  | cons x l ih => exact (h s x).trans (ih _)

end EditsRecords

section Edits

variable {ok : Nat → Prop} (die : Nat) (s : State)

theorem announce_edits (k : TransitionKind) (f : DieFault) (a b : Bool) : EditsRecords ok s (announce k die f a b s) :=
  .of_eq (announce_params _ _ _ _ _ _) (announce_records _ _ _ _ _ _)

theorem dropRecord_edits : EditsRecords ok s (dropRecord die s) := ⟨rfl, .drop die .refl⟩

variable {die s}

theorem putRecord_edits {r r' : DefectRecord} (hr : Table.fetch s.map.records die = some r)
    (hnew : r.Renews s.params.w r') : EditsRecords ok s (putRecord die r' s) := ⟨rfl, .renew .refl hr hnew⟩

theorem DefectRecord.renews_enter (w : Nat) (r r' : DefectRecord) (x : RecordState) (now : PassNumber) :
    r.Renews w (r'.enter x now) := Or.inl ⟨rfl, rfl⟩

theorem confirmRecord_edits {r : DefectRecord} (r' : DefectRecord) (hr : Table.fetch s.map.records die = some r) :
    EditsRecords ok s (confirmRecord die r' s) :=
  (putRecord_edits hr (r.renews_enter _ _ _ _)).trans (announce_edits _ _ _ _ _ _)

/-- A counted test keeps the state and the order of the counts. -/
theorem DefectRecord.tested_spec (r : DefectRecord) (b : Bool) :
    (r.tested b).state = r.state ∧ (r.hits ≤ r.passes → (r.tested b).hits ≤ (r.tested b).passes) := by
  cases b
  · exact ⟨rfl, fun h => Nat.le_succ_of_le h⟩
  · exact ⟨rfl, fun h => Nat.succ_le_succ h⟩

/-- A window that is neither decided nor given up is at most W tests long (R111). -/
theorem passes_le_of_undecided {hits passes c w : Nat} (hc : ¬ c ≤ hits) (hw : ¬ hits + w < c + passes) : passes ≤ w := by
  omega

theorem judgeSuspect_edits {r r' : DefectRecord} (hr : Table.fetch s.map.records die = some r)
    (hstate : r'.state = r.state ∧ (r.hits ≤ r.passes → r'.hits ≤ r'.passes))
    (hopen : r.state = .suspect ∨ r.state = .retest) : EditsRecords ok s (judgeSuspect die r' s) := by
  unfold judgeSuspect
  split
  · exact confirmRecord_edits r' hr
  · next hhits =>
    split
    · exact (dropRecord_edits _ _).trans (announce_edits _ _ _ _ _ _)
    · next hwindow =>
      exact putRecord_edits hr (Or.inr ⟨hstate.1, hopen, hstate.2, passes_le_of_undecided hhits hwindow⟩)

theorem judgeRetest_edits {r r' : DefectRecord} (short : Bool) (hr : Table.fetch s.map.records die = some r)
    (hstate : r'.state = r.state ∧ (r.hits ≤ r.passes → r'.hits ≤ r'.passes))
    (hopen : r.state = .suspect ∨ r.state = .retest) : EditsRecords ok s (judgeRetest die r' short s) := by
  unfold judgeRetest
  split
  · exact (putRecord_edits hr (r.renews_enter _ _ _ _)).trans (announce_edits _ _ _ _ _ _)
  · next hhits =>
    split
    · exact (dropRecord_edits _ _).trans (announce_edits _ _ _ _ _ _)
    · next hwindow =>
      exact putRecord_edits hr
        (Or.inr ⟨hstate.1, hopen, hstate.2, passes_le_of_undecided (fun hle => hhits (Or.inl hle)) hwindow⟩)

/-- The record to evict is listed. -/
theorem evictee_mem {now : PassNumber} {t : Table DefectRecord} {e : Nat × DefectRecord} (h : evictee now t = some e) :
    e ∈ t := by
  induction t with
  | nil => simp [evictee] at h
  | cons f t ih =>
    unfold evictee at h
    split at h
    · split at h
      · obtain rfl := Option.some.inj h; exact List.mem_cons_self
      · next hrest =>
        split at h
        · obtain rfl := Option.some.inj h; exact List.mem_cons_of_mem _ (ih hrest)
        · obtain rfl := Option.some.inj h; exact List.mem_cons_self
    · exact List.mem_cons_of_mem _ (ih h)

/-- Where room is made, a record is created next, in a map that then has room (R107, R119). -/
theorem makeRoom_create_edits {t : State} {r : DefectRecord} (h : makeRoom s = some t) (hok : ok die) (hnew : r.Fresh) :
    EditsRecords ok s (putRecord die r t) := by
  unfold makeRoom at h
  split at h
  · next hroom =>
    obtain rfl := Option.some.inj h
    exact ⟨rfl, .create .refl hok (fun _ _ => hroom) hnew⟩
  · split at h
    · exact absurd h (by simp)
    · next hevict =>
      obtain rfl := Option.some.inj h
      have hshort := Table.length_discard_lt (evictee_mem hevict)
      refine ⟨by simp, ?_⟩
      simp only [putRecord_records, announce_records, dropRecord_records]
      exact .create (.drop _ .refl) hok (fun _ hlen => by omega) hnew

theorem sensedRecord_fresh (f : DieFault) (now : PassNumber) :
    (sensedRecord .suspect f 1 now).Fresh ∧ (sensedRecord .confirmed f 0 now).Fresh :=
  ⟨Or.inr ⟨rfl, rfl, rfl⟩, Or.inl ⟨rfl, rfl⟩⟩

theorem observeNew_edits (o : TestAnswer) (hok : ok die) : EditsRecords ok s (observeNew die o s) := by
  have hdropped : EditsRecords ok s (raise .mapFull (count .mapFullDrops s)) := .of_eq rfl rfl
  unfold observeNew
  cases o with
  | ok => exact .refl s
  | opened =>
    dsimp only
    split
    · exact hdropped
    · next hroom =>
      refine EditsRecords.trans (makeRoom_create_edits hroom hok (sensedRecord_fresh .opened _).1)
        (EditsRecords.trans (announce_edits _ _ _ _ _ _) (judgeSuspect_edits ?_ ⟨rfl, id⟩ (Or.inl rfl)))
      rw [announce_records, putRecord_records, Table.fetch_store_same]
  | shorted =>
    dsimp only
    split
    · exact hdropped
    · next hroom =>
      exact EditsRecords.trans (makeRoom_create_edits hroom hok (sensedRecord_fresh .shorted _).2)
        (EditsRecords.trans (announce_edits _ _ _ _ _ _) (announce_edits _ _ _ _ _ _))

/-- What an observation does to the records (R107 to R112, R116, R117). -/
theorem observe_edits (o : TestAnswer) (hok : ok die) : EditsRecords ok s (observe die o s) := by
  unfold observe
  split
  · exact observeNew_edits o hok
  · next r hr =>
    split
    · next hstate =>
      have hopen : r.state = .suspect ∨ r.state = .retest := Or.inl hstate
      cases o with
      | ok => exact judgeSuspect_edits hr (r.tested_spec false) hopen
      | opened => exact judgeSuspect_edits hr (r.tested_spec true) hopen
      | shorted => exact confirmRecord_edits _ hr
    · next hstate =>
      have hopen : r.state = .suspect ∨ r.state = .retest := Or.inr hstate
      cases o with
      | ok => exact judgeRetest_edits _ hr (r.tested_spec false) hopen
      | opened => exact judgeRetest_edits _ hr (r.tested_spec true) hopen
      | shorted => exact judgeRetest_edits _ hr ⟨rfl, id⟩ hopen
    all_goals exact .refl s

theorem abandonOne_edits (s : State) (die : Nat) : EditsRecords ok s (abandonOne s die) := by
  unfold abandonOne
  split
  · exact .refl s
  · next hr => exact (putRecord_edits hr (DefectRecord.renews_enter _ _ _ _ _)).trans (announce_edits _ _ _ _ _ _)

theorem stopLong_edits (o : LongOutcome) (s : State) : EditsRecords ok s (stopLong o s) := by
  unfold stopLong
  split
  · exact (EditsRecords.foldl abandonOne_edits _ s).trans (.of_eq rfl rfl)
  · exact .of_eq rfl rfl

theorem beginRetest_edits (s : State) (die : Nat) : EditsRecords ok s (beginRetest s die) := by
  unfold beginRetest
  split
  · exact .refl s
  · next hr => exact (putRecord_edits hr (DefectRecord.renews_enter _ _ _ _ _)).trans (announce_edits _ _ _ _ _ _)

/-! ## The actions -/

theorem actRetest_edits (p : List Byte) (s : State) : EditsRecords ok s (actRetest p s).1 := by
  unfold actRetest
  split
  · exact .refl s
  · dsimp only
    split
    · exact (EditsRecords.foldl beginRetest_edits _ s).andSame
    · exact (EditsRecords.foldl beginRetest_edits _ s).andSame

theorem actHalt_edits (p : List Byte) (s : State) : EditsRecords ok s (actHalt p s).1 := by
  unfold actHalt
  split
  · exact (stopLong_edits .halted s).andSame
  · exact .refl s

theorem pinRecord_edits {x : RecordState} {r : DefectRecord} (hr : Table.fetch s.map.records die = some r) :
    EditsRecords ok s (pinRecord die x r s) := by
  unfold pinRecord
  split
  · exact .refl s
  · exact (putRecord_edits hr (Or.inl ⟨rfl, rfl⟩)).trans (announce_edits _ _ _ _ _ _)

/-- PIN edits the die's record or creates one, for a present die (R121, R122). -/
theorem actPin_edits (p : List Byte) (s : State) :
    EditsRecords (fun d => s.layout.presentDie d = true) s (actPin p s).1 := by
  unfold actPin
  split
  · exact .refl s
  · split
    · exact .refl s
    · next hpresent =>
      split
      · exact .refl s
      · unfold acceptPin
        split
        · next hr => exact pinRecord_edits hr
        · split
          · exact .refl s
          · next hroom =>
            dsimp only
            exact (makeRoom_create_edits hroom (by simpa using hpresent) (Or.inl ⟨rfl, rfl⟩)).trans
              (announce_edits _ _ _ _ _ _)

theorem actUnpin_edits (p : List Byte) (s : State) : EditsRecords ok s (actUnpin p s).1 := by
  unfold actUnpin
  split
  · exact .refl s
  · split
    · exact .refl s
    · split
      · exact .refl s
      · split
        · exact .refl s
        · dsimp only
          exact (dropRecord_edits _ _).trans (announce_edits _ _ _ _ _ _)

theorem loadRecord_edits {f : DieFault} {r : DefectRecord} (hr : Table.fetch s.map.records die = some r) :
    EditsRecords ok s (loadRecord die f r s) :=
  (putRecord_edits hr (Or.inl ⟨rfl, rfl⟩)).trans (announce_edits _ _ _ _ _ _)

/-- RESTORE edits the die's record or creates one, for a present die (R124). -/
theorem actRestore_edits (p : List Byte) (s : State) :
    EditsRecords (fun d => s.layout.presentDie d = true) s (actRestore p s).1 := by
  unfold actRestore
  split
  · exact .refl s
  · split
    · exact .refl s
    · next hpresent =>
      split
      · exact .refl s
      · unfold acceptRestore
        split
        · next hr =>
          split
          case h_4 | h_5 => exact loadRecord_edits hr
          all_goals exact .refl s
        · split
          · exact .refl s
          · next hroom =>
            dsimp only
            exact (makeRoom_create_edits hroom (by simpa using hpresent) (Or.inl ⟨rfl, rfl⟩)).trans
              (announce_edits _ _ _ _ _ _)

theorem actReadTransitions_edits (p : List Byte) (s : State) : EditsRecords ok s (actReadTransitions p s).1 := .of_eq rfl rfl

/-! ## The events of passes, gaps and ports -/

theorem fallAsleep_edits (s : State) : EditsRecords ok s (fallAsleep s) := by
  have hcut : ∀ x, EditsRecords ok s (cutForStandby (s.setScan x)) := fun x =>
    EditsRecords.trans (t := s.setScan x) (.of_eq rfl rfl) (.of_acts (cutForStandby_acts _))
  unfold fallAsleep
  dsimp only
  split
  · exact (hcut _).trans (stopLong_edits .haltedByStandby _).andSame
  · exact hcut _

theorem endPass_edits (s : State) : EditsRecords ok s (endPass s) := by
  unfold endPass
  split
  · split
    · unfold enterStandby
      dsimp only
      split
      · exact (fallAsleep_edits s).trans (.of_acts (payOwedReply_acts _))
      · exact fallAsleep_edits s
    · exact .of_acts (enterGap_acts s)
  · exact .refl s

theorem judgeAnswer_edits (serves : Bool) (o : TestAnswer) (hok : ok die) : EditsRecords ok s (judgeAnswer die serves o s) := by
  unfold judgeAnswer
  split
  · exact .refl s
  · split
    · dsimp only
      split <;> exact .of_eq rfl rfl
    · split
      · exact EditsRecords.trans (t := countTested o s) (.of_eq rfl rfl) (observe_edits o hok)
      · exact observe_edits o hok

/-- An answer edits the record of a die of the gap list, or creates one (R85). -/
theorem takeAnswer_edits (x : GapTest) (o : TestAnswer) (hot : Bool) (s : State) :
    EditsRecords (fun d => d ∈ s.sense.gap.map GapEntry.die) s (takeAnswer x o hot s) := by
  unfold takeAnswer
  split
  · exact .refl s
  · split
    · exact .refl s
    · next e he =>
      have hdie : e.die = x.die := by
        have hfound := List.find?_some he
        simp only [Bool.and_eq_true, beq_iff_eq] at hfound
        exact hfound.1
      have hmem : x.die ∈ s.sense.gap.map GapEntry.die := hdie ▸ List.mem_map_of_mem (List.mem_of_find?_eq_some he)
      have hmodule : Acts moduleBlocks s (answerModule (slotOfChannel (dieChannel x.die)) hot (markTaken x.die s)) :=
        (setSense_acts _ _).andThen (answerModule_acts _ _ _) (by decide) (by decide)
      exact (EditsRecords.of_acts hmodule).trans (judgeAnswer_edits _ _ hmem)

/-- A live short report edits the die's record, or creates one for a present die (R71, R72). -/
theorem liveShort_edits (die : Nat) (s : State) :
    EditsRecords (fun d => s.layout.presentDie d = true) s (liveShort die s) := by
  unfold liveShort
  split
  · exact .refl s
  · split
    · exact .refl s
    · next hlit =>
      have hpresent : s.layout.presentDie die = true := by
        simp only [Bool.or_eq_true, not_or, Bool.not_eq_true', Bool.not_eq_false] at hlit
        exact hlit.1
      split
      · exact .of_eq rfl rfl
      · exact (EditsRecords.of_acts (cutChannel_acts _ s)).trans
          ((observe_edits .shorted hpresent).trans (.of_acts (cutRound_acts _ _)))

theorem restartAll_edits (s : State) : EditsRecords ok s (restartAll s) := by
  have hsense : ∀ u : State, EditsRecords ok u (restartSense u) := by
    intro u
    unfold restartSense
    dsimp only
    split
    · refine EditsRecords.trans ?_ (stopLong_edits .aborted _)
      exact .of_eq rfl rfl
    · exact .of_eq rfl rfl
  have hpicture : EditsRecords ok s (restartPicture (restartCapture s)) := .of_eq rfl rfl
  unfold restartAll
  exact (hpicture.trans (hsense _)).trans ((EditsRecords.of_acts (restartRound_acts _ _)).trans (.of_eq rfl rfl))

end Edits

/-! ## Every step -/

/-- A hand-on replaces the Control Port, and before that takes at most the owning block's action (R178). -/
theorem handOn_eq_setControl (kind : Byte) (act : List Byte → State → State × Answer) (s : State) :
    ∃ c, handOn kind act s = s.setControl c ∨ ∃ p, handOn kind act s = (act p s).1.setControl c := by
  unfold handOn
  split
  · exact ⟨s.control, Or.inl rfl⟩
  · next m _ =>
    split
    · split
      · unfold settleAnswer
        split <;> exact ⟨_, Or.inr ⟨m.payload, rfl⟩⟩
      · exact ⟨_, Or.inl rfl⟩
    · exact ⟨s.control, Or.inl rfl⟩

/-- What each command's meaning must give for `P` to hold after every command taken in `s`.  The commands that only answer
need nothing. -/
structure CommandsKeep (P : State → Prop) (s : State) : Prop where
  control : ∀ (u : State) (c : ControlPort), P u → P (u.setControl c)
  idle : P s
  powerOn : ∀ t, exec .powerOn s = .next t → P t
  character : ∀ ch stopBit, P (takeCharacter ch stopBit s)
  setLayout : ∀ p, P (actSetLayout p s).1
  setParams : ∀ p, P (actSetParams p s).1
  survey : ∀ p, P (actSurvey p s).1
  retest : ∀ p, P (actRetest p s).1
  halt : ∀ p, P (actHalt p s).1
  pin : ∀ p, P (actPin p s).1
  unpin : ∀ p, P (actUnpin p s).1
  restore : ∀ p, P (actRestore p s).1
  readTransitions : ∀ p, P (actReadTransitions p s).1
  armCapture : ∀ p, P (actArmCapture p s).1
  disarm : ∀ p, P (actDisarm p s).1
  releaseHold : ∀ p, P (actReleaseHold p s).1
  standby : ∀ p, P (actStandby p s).1
  wake : ∀ p, P (actWake p s).1
  restart : P (restartAll s)
  readEvents : ∀ p, P (actReadEvents p s).1
  setMask : ∀ p, P (actSetMask p s).1
  readCounters : ∀ p, P (actReadCounters p s).1
  linkByte : ∀ b, P (takeLinkByte b s)
  lossOfSignal : P (takeLossOfSignal s)
  lightRow : P (lightRow s)
  passEnd : P (endPass s)
  gapEnd : P (endGap s)
  answer : ∀ x o hot, P (takeAnswer x o hot s)
  liveShort : ∀ d, P (liveShort d s)

namespace CommandsKeep

variable {P : State → Prop} {s t : State}

theorem handOn (k : CommandsKeep P s) {act : List Byte → State → State × Answer} (h : ∀ p, P (act p s).1) (kind : Byte) :
    P (Machine.handOn kind act s) := by
  obtain ⟨c, hc | ⟨p, hc⟩⟩ := handOn_eq_setControl kind act s
  · rw [hc]; exact k.control s c k.idle
  · rw [hc]; exact k.control _ c (h p)

theorem answers (k : CommandsKeep P s) {act : List Byte → State → State × Answer} (h : OnlyAnswers act) (kind : Byte) :
    P (Machine.handOn kind act s) := k.handOn (fun p => by rw [h p s]; exact k.idle) kind

theorem sendReply (k : CommandsKeep P s) : P (Machine.sendReply s) := by
  unfold Machine.sendReply
  split
  · exact k.idle
  · exact k.control s _ k.idle

theorem handOnUnknown (k : CommandsKeep P s) : P (Machine.handOnUnknown s) := by
  unfold Machine.handOnUnknown
  split
  · exact k.idle
  · split
    · exact k.control s _ k.idle
    · exact k.idle

/-- The dispatch over the commands, taken once. -/
theorem exec (k : CommandsKeep P s) {c : Instr} (h : Machine.exec c s = .next t) : P t := by
  cases c
  case powerOn => exact k.powerOn t h
  all_goals obtain rfl := Host.Outcome.next.inj h
  case controlCharacter ch stopBit => exact k.character ch stopBit
  case replySent => exact k.sendReply
  case unknownKind => exact k.handOnUnknown
  case identify => exact k.answers actIdentify_onlyAnswers 0x01
  case getStatus => exact k.answers actGetStatus_onlyAnswers 0x02
  case setLayout => exact k.handOn k.setLayout 0x03
  case getLayout => exact k.answers actGetLayout_onlyAnswers 0x04
  case setParams => exact k.handOn k.setParams 0x05
  case getParams => exact k.answers actGetParams_onlyAnswers 0x06
  case survey => exact k.handOn k.survey 0x10
  case retest => exact k.handOn k.retest 0x11
  case halt => exact k.handOn k.halt 0x12
  case pin => exact k.handOn k.pin 0x18
  case unpin => exact k.handOn k.unpin 0x19
  case restore => exact k.handOn k.restore 0x1A
  case readMap => exact k.answers actReadMap_onlyAnswers 0x20
  case readTransitions => exact k.handOn k.readTransitions 0x21
  case readPlan => exact k.answers actReadPlan_onlyAnswers 0x22
  case armCapture => exact k.handOn k.armCapture 0x28
  case disarm => exact k.handOn k.disarm 0x29
  case readCapture => exact k.answers actReadCapture_onlyAnswers 0x2A
  case releaseHold => exact k.handOn k.releaseHold 0x2B
  case standby => exact k.handOn k.standby 0x30
  case wake => exact k.handOn k.wake 0x31
  case restart => exact k.handOn (act := actRestart) (fun _ => k.restart) 0x32
  case readEvents => exact k.handOn k.readEvents 0x38
  case setMask => exact k.handOn k.setMask 0x39
  case readCounters => exact k.handOn k.readCounters 0x3A
  case linkByte b => exact k.linkByte b
  case lossOfSignal => exact k.lossOfSignal
  case lightRow => exact k.lightRow
  case passEnd => exact k.passEnd
  case gapEnd => exact k.gapEnd
  case gapTestAnswer test result hot => exact k.answer test result hot
  case liveShortReport die => exact k.liveShort die

end CommandsKeep

/-- The dies a command may create a record for: present ones, and those a gap test is out for. -/
def State.recordable (s : State) (d : Nat) : Prop :=
  s.layout.presentDie d = true ∨ d ∈ s.sense.gap.map GapEntry.die

theorem RecordEdits.mono {w : Nat} {ok ok' : Nat → Prop} {t u : Table DefectRecord} (h : RecordEdits w ok t u)
    (hok : ∀ d, ok d → ok' d) : RecordEdits w ok' t u := by
  induction h with
  | refl => exact .refl
  | drop d _ ih => exact ih.drop d
  | renew _ hr hnew ih => exact ih.renew hr hnew
  | create _ hd hroom hnew ih => exact ih.create (hok _ hd) hroom hnew

theorem EditsRecords.mono {ok ok' : Nat → Prop} {s t : State} (h : EditsRecords ok s t) (hok : ∀ d, ok d → ok' d) :
    EditsRecords ok' s t := ⟨h.params, h.records.mono hok⟩

theorem actReadEvents_only (p : List Byte) (s : State) : OnlyChanges [.events] s (actReadEvents p s).1 :=
  setEvents_only s (s.events.cleared (clearMask p))

theorem actSetMask_only (p : List Byte) (s : State) : OnlyChanges [.events] s (actSetMask p s).1 :=
  setEvents_only s (s.events.masked (sentEvents p))

/-- Every command edits the records by `RecordEdits`, but for POWER_ON and an accepted SET_LAYOUT, which empty the map. -/
theorem commands_editRecords (s : State) : CommandsKeep
    (fun t => RecordEdits s.params.w s.recordable s.map.records t.map.records ∨ t.map.records = []) s := by
  have hedits : ∀ {t : State}, EditsRecords s.recordable s t →
      RecordEdits s.params.w s.recordable s.map.records t.map.records ∨ t.map.records = [] := fun h => Or.inl h.records
  have hsame : ∀ {t : State}, t.map = s.map →
      RecordEdits s.params.w s.recordable s.map.records t.map.records ∨ t.map.records = [] :=
    fun h => Or.inl (by rw [h]; exact .refl)
  have hpresent : ∀ d, s.layout.presentDie d = true → s.recordable d := fun _ => Or.inl
  exact {
    control := fun _ _ h => h
    idle := Or.inl .refl
    powerOn := fun t h => by obtain rfl := Host.Outcome.next.inj h; exact Or.inr rfl
    character := fun ch b => hsame (takeCharacter_acts ch b s).only.map
    setLayout := fun p => by
      unfold actSetLayout
      split
      · exact Or.inl .refl
      · split
        · exact Or.inl .refl
        · exact Or.inr rfl
    setParams := fun p => hsame (actSetParams_acts p s).only.map
    survey := fun p => hsame (actSurvey_acts p s).only.map
    retest := fun p => hedits (actRetest_edits p s)
    halt := fun p => hedits (actHalt_edits p s)
    pin := fun p => hedits ((actPin_edits p s).mono hpresent)
    unpin := fun p => hedits (actUnpin_edits p s)
    restore := fun p => hedits ((actRestore_edits p s).mono hpresent)
    readTransitions := fun p => hedits (actReadTransitions_edits p s)
    armCapture := fun p => hsame (actArmCapture_acts p s).only.map
    disarm := fun p => hsame (actDisarm_acts p s).only.map
    releaseHold := fun p => hsame (actReleaseHold_acts p s).only.map
    standby := fun p => hsame (actStandby_acts p s).only.map
    wake := fun p => hsame (actWake_acts p s).only.map
    restart := hedits (restartAll_edits s)
    readEvents := fun p => hsame (actReadEvents_only p s).map
    setMask := fun p => hsame (actSetMask_only p s).map
    readCounters := fun p => hsame (actReadCounters_acts p s).only.map
    linkByte := fun b => hsame (takeLinkByte_acts b s).only.map
    lossOfSignal := hsame (takeLossOfSignal_acts s).only.map
    lightRow := hsame (lightRow_acts s).only.map
    passEnd := hedits (endPass_edits s)
    gapEnd := hsame (endGap_acts s).only.map
    answer := fun x o hot => hedits ((takeAnswer_edits x o hot s).mono fun _ => Or.inr)
    liveShort := fun d => hedits ((liveShort_edits d s).mono hpresent) }

/-- An invariant that looks past the queue of commands is kept by every step when every command keeps it. -/
theorem step_keeps {P : State → Prop} {s t : State} (hpending : ∀ x, P s → P (s.setPending x))
    (hexec : ∀ c x, exec c (s.setPending x) = .next t → P (s.setPending x) → P t) (hstep : step s = .next t) (hs : P s) :
    P t := by
  unfold step at hstep
  split at hstep
  · obtain rfl := Host.Outcome.next.inj hstep
    exact hs
  · exact hexec _ _ hstep (hpending _ hs)

/-- Settles O58: the edits keep every count, W being at most 15. -/
theorem recordCountsStaySound : Obligations.RecordCountsStaySound := by
  intro s t hparams hsound hstep
  obtain ⟨-, hw, -⟩ := hparams
  refine step_keeps (P := RecordCountsSound) (fun _ h => h) (fun c x hexec hs => ?_) hstep hsound
  obtain hedits | hempty := (commands_editRecords _).exec hexec
  · exact hedits.countsSound hw hs
  · intro e he
    rw [hempty] at he
    exact absurd he List.not_mem_nil

end Sys2Proof.Machine
end


section
/-! PROOFS. The rows of the Row Store (Chapter 3): what keeps a row's slots canonical with values of ten bits, and how many
rows there are. -/

namespace Sys2Proof.Machine

/-! ## Values a sparse table lists -/

/-- What is held for a key is an entry, unless it is the default. -/
theorem Table.mem_hold {α : Type} [DecidableEq α] {d v : α} {t : Table α} {k : Nat} {e : Nat × α}
    (h : e ∈ Table.hold d t k v) : (e = (k, v) ∧ v ≠ d) ∨ e ∈ t := by
  unfold Table.hold at h
  split at h
  · exact Or.inr (List.mem_filter.mp h).1
  · next hne => exact (Table.mem_store h).imp_left fun heq => ⟨heq, hne⟩

/-! ## Rows -/

/-- A row slot is canonical and lists values of 1 to 1023 (R39, log entry 8). -/
def SlotSound (t : Table Nat) : Prop := Table.canonical t = true ∧ ∀ e ∈ t, 0 < e.2 ∧ e.2 ≤ 1023

/-- Both slots of a row are sound. -/
def Row.Sound (r : Row) : Prop := SlotSound r.slot0 ∧ SlotSound r.slot1

theorem slotSound_nil : SlotSound [] := ⟨rfl, fun _ h => absurd h List.not_mem_nil⟩

theorem Row.sound_black : Row.black.Sound := ⟨slotSound_nil, slotSound_nil⟩

/-- The values of a group have ten bits (R26). -/
theorem groupValue_le (g : List Byte) (j : Nat) : groupValue g j ≤ 1023 := by
  have := Nat.mod_lt (numberAt g 0 5 / 1024 ^ j) (show 0 < 1024 by decide)
  unfold groupValue
  omega

theorem slotSound_hold {t : Table Nat} (k : Nat) {v : Nat} (h : SlotSound t) (hv : v ≤ 1023) :
    SlotSound (Table.hold 0 t k v) := by
  obtain ⟨hcanonical, hvalues⟩ := h
  refine ⟨Table.canonical_hold k v hcanonical, fun e he => ?_⟩
  obtain ⟨rfl, hne⟩ | he := Table.mem_hold he
  · exact ⟨Nat.pos_of_ne_zero hne, hv⟩
  · exact hvalues e he

theorem slotSound_writeGroup (k : Nat) (g : List Byte) {t : Table Nat} (h : SlotSound t) : SlotSound (writeGroup k g t) := by
  unfold writeGroup
  generalize [0, 1, 2, 3] = js
  induction js generalizing t with
  | nil => exact h
  | cons j js ih => exact ih (slotSound_hold _ h (groupValue_le g j))

theorem Row.Sound.target {r : Row} (h : r.Sound) : SlotSound r.target := by
  unfold Row.target
  split
  · exact h.2
  · exact h.1

theorem Row.Sound.setTarget {r : Row} {v : Table Nat} (h : r.Sound) (hv : SlotSound v) : (r.setTarget v).Sound := by
  unfold Row.setTarget
  split
  · exact ⟨h.1, hv⟩
  · exact ⟨hv, h.2⟩

theorem Row.Sound.setShown {r : Row} {v : Table Nat} (h : r.Sound) (hv : SlotSound v) : (r.setShown v).Sound := by
  unfold Row.setShown
  split
  · exact ⟨hv, h.2⟩
  · exact ⟨h.1, hv⟩

/-- A row's visit at a pass start keeps its slots, or empties the one on display (R42 to R44). -/
theorem Row.Sound.commit {r : Row} (h : r.Sound) : r.commit.Sound := by
  unfold Row.commit
  split
  · exact h
  · exact h.setShown slotSound_nil
  · exact h

theorem Row.Sound.checked {r : Row} (l : Nat) (h : r.Sound) : (r.checked l).Sound := by
  unfold Row.checked
  split <;> exact h

theorem Row.Sound.closed {r : Row} (h : r.Sound) : r.closed.Sound := by
  unfold Row.closed
  split <;> exact h

/-! ## What operations do to the store -/

/-- Going from `s` to `t` the number of rows stays, and rows that are all sound stay so. -/
structure RowsKept (s t : State) : Prop where
  length : t.store.length = s.store.length
  sound : (∀ r ∈ s.store, r.Sound) → ∀ r ∈ t.store, r.Sound

namespace RowsKept

variable {s t u : State}

theorem of_eq (h : t.store = s.store) : RowsKept s t := ⟨congrArg List.length h, fun hs => h ▸ hs⟩

theorem refl (s : State) : RowsKept s s := of_eq rfl

theorem trans (h : RowsKept s t) (k : RowsKept t u) : RowsKept s u :=
  ⟨k.length.trans h.length, fun hs => k.sound (h.sound hs)⟩

theorem of_acts {bs : List Block} (h : Acts bs s t) (hstore : Block.store ∉ bs := by decide) : RowsKept s t :=
  of_eq (h.only .store hstore)

theorem andSame (h : RowsKept s t) (hstore : u.store = t.store := by rfl) : RowsKept s u := h.trans (of_eq hstore)

theorem afterSame (k : RowsKept t u) (h : t.store = s.store := by rfl) : RowsKept s u := (of_eq h).trans k

theorem of_map {f : Row → Row} (hf : ∀ r : Row, r.Sound → (f r).Sound) (h : t.store = s.store.map f) : RowsKept s t := by
  refine ⟨by rw [h, List.length_map], fun hs r hr => ?_⟩
  rw [h] at hr
  obtain ⟨q, hq, rfl⟩ := List.mem_map.mp hr
  exact hf q (hs q hq)

end RowsKept

/-- Changing one row keeps the rows when the change keeps a row sound. -/
theorem updateRow_rows {f : Row → Row} (hf : ∀ r : Row, r.Sound → (f r).Sound) (y : Nat) (s : State) :
    RowsKept s (updateRow y f s) := by
  refine ⟨List.length_modify _ _ _, fun hs r hr => ?_⟩
  obtain ⟨n, hn, rfl⟩ := List.getElem_of_mem hr
  simp only [updateRow, State.setStore_store] at hn ⊢
  rw [List.getElem_modify]
  have hold := hs _ (List.getElem_mem (by simpa [List.length_modify] using hn))
  split
  · exact hf _ hold
  · exact hold

theorem closeRows_rows (s : State) : RowsKept s (closeRows s) := by
  unfold closeRows
  split
  · exact .of_map (fun _ h => h.closed) rfl
  · exact .of_map (f := Row.closedBlank) (fun _ h => h) rfl

theorem cutFrame_rows (s : State) : RowsKept s (cutFrame s) := by
  unfold cutFrame
  dsimp only
  split
  · exact ((RowsKept.of_acts (countTimes_acts _ _ s)).trans (closeRows_rows _)).andSame
  · exact (closeRows_rows s).andSame

theorem storePassStart_rows (s : State) : RowsKept s (storePassStart s) := by
  have hvisit : RowsKept s (s.setStore ((s.store.map Row.commit).map (Row.checked s.params.l))) :=
    .of_map (f := fun r => r.commit.checked s.params.l) (fun _ h => h.commit.checked _) (by simp [Function.comp_def])
  have hcount := hvisit.trans (RowsKept.of_acts (countTimes_acts .rowsBlanked
    (staleCount s.params.l (s.store.map Row.commit)) _))
  unfold storePassStart
  dsimp only
  split
  · exact hcount
  · split
    · exact (hcount.andSame (u := raise .staleRow _)).trans (.of_acts (requestStandby_acts _))
    · exact hcount.andSame

theorem passStart_rows (s : State) : RowsKept s (passStart s) :=
  (storePassStart_rows _).afterSame

theorem wakeDisplay_rows (s : State) : RowsKept s (wakeDisplay s) := by
  unfold wakeDisplay
  split
  · exact (passStart_rows _).afterSame
  · exact .refl s

theorem cutForStandby_rows (s : State) : RowsKept s (cutForStandby s) := by
  unfold cutForStandby
  split
  · exact (cutFrame_rows s).andSame
  · exact .refl s

/-! ## The link -/

theorem symbolError_rows (s : State) : RowsKept s (symbolError s) := by
  unfold symbolError
  dsimp only
  split
  · exact (cutFrame_rows (count .symbolErrors s)).afterSame.andSame
  · exact .of_eq rfl

theorem linkSync_rows (s : State) : RowsKept s (linkSync s) := by
  unfold linkSync
  split
  · exact (cutFrame_rows s).andSame
  · exact .of_eq rfl

theorem settleSequence_store (q : BitVec 16) (s : State) : (settleSequence q s).store = s.store := by
  unfold settleSequence
  dsimp only
  split <;> rfl

theorem judgeHeader_rows (h : List Byte) (s : State) : RowsKept s (judgeHeader h s) := by
  have hsleeping : ∀ a b u, RowsKept u (headerInStandby a b u) := by
    intro a b u
    unfold headerInStandby
    dsimp only
    split
    · exact (wakeDisplay_rows _).afterSame
    · exact .of_eq rfl
  unfold judgeHeader
  dsimp only
  split
  · exact .of_eq rfl
  · split
    · exact .of_eq rfl
    · split
      · exact (hsleeping _ _ _).afterSame (settleSequence_store _ s)
      · exact .of_eq (settleSequence_store _ s)

theorem rowsData_rows (b : Byte) (s : State) : RowsKept s (rowsData b s) := by
  have hrow : ∀ (c : Bool) (y : Nat) {f : Row → Row} (u : State), (∀ r : Row, r.Sound → (f r).Sound) →
      RowsKept u (if c then updateRow y f u else u) := by
    intro c y f u hf
    cases c
    · exact .refl u
    · exact updateRow_rows hf y u
  unfold rowsData
  split
  · unfold blockIndex
    dsimp only
    have hfill := (updateRow_rows (f := Row.filling) (fun _ h => h) b.toNat
      (s.setInput { s.input with blockRow := b, blockSum := b, position := .inData 0, group := [] })).afterSame (s := s)
    split
    · split
      · exact hfill.andSame
      · exact hfill
    · exact .of_eq rfl
  · next n _ =>
    have hwrite : ∀ r : Row, r.Sound → (r.setTarget (writeGroup (n / 5) (s.input.group ++ [b]) r.target)).Sound :=
      fun _ h => h.setTarget (slotSound_writeGroup _ _ h.target)
    exact (hrow _ _ _ hwrite).afterSame
  · have hmark : ∀ (x : Incoming) (r : Row), r.Sound → Row.Sound { r with incoming := x } := fun _ _ h => h
    exact (hrow _ _ _ (hmark _)).afterSame (by split <;> rfl)

theorem linkData_rows (b : Byte) (s : State) : RowsKept s (linkData b s) := by
  unfold linkData
  split
  · exact rowsData_rows b s
  · unfold headerData
    dsimp only
    split
    · exact (judgeHeader_rows _ _).afterSame
    · exact .of_eq rfl

theorem sortByte_rows (b : Byte) (s : State) : RowsKept s (sortByte b s) := by
  unfold sortByte
  split
  · exact .refl s
  · split
    · unfold completeEscape
      dsimp only
      split
      · exact (linkData_rows _ _).afterSame
      · split
        · exact ((symbolError_rows _).trans (linkSync_rows _)).afterSame
        · exact (symbolError_rows _).afterSame
    · split
      · exact .of_eq rfl
      · split
        · exact linkSync_rows s
        · split
          · unfold linkEndSymbol
            split
            · exact (closeRows_rows s).andSame
            · exact symbolError_rows s
          · exact linkData_rows b s

theorem takeLinkByte_rows (b : Byte) (s : State) : RowsKept s (takeLinkByte b s) := by
  have hsync : RowsKept s (if b = linkS1 then linkSync s else s) := by
    split
    · exact linkSync_rows s
    · exact .refl s
  unfold takeLinkByte
  split
  · exact hsync
  · unfold syncByte
    split
    · exact .of_eq rfl
    · split
      · exact .refl s
      · exact .of_eq rfl
  · exact sortByte_rows b s
  · exact sortByte_rows b s
  · exact hsync
  · unfold gapByte
    split
    · exact .refl s
    · split
      · exact linkSync_rows s
      · exact symbolError_rows s

theorem takeLossOfSignal_rows (s : State) : RowsKept s (takeLossOfSignal s) := by
  unfold takeLossOfSignal
  split
  · exact .refl s
  · dsimp only
    split
    · exact (cutFrame_rows (raise .inputLost s)).afterSame.andSame
    · exact .of_eq rfl

/-! ## Passes and gaps -/

theorem endPass_rows (s : State) : RowsKept s (endPass s) := by
  have hcut : RowsKept s (cutForStandby (s.setScan s.scan.asleep)) := (cutForStandby_rows _).afterSame
  have hasleep : RowsKept s (fallAsleep s) := by
    unfold fallAsleep
    dsimp only
    split
    · exact (hcut.trans (.of_acts (stopLong_acts .haltedByStandby _))).andSame
    · exact hcut
  unfold endPass
  split
  · split
    · unfold enterStandby
      dsimp only
      split
      · exact hasleep.trans (.of_acts (payOwedReply_acts _))
      · exact hasleep
    · exact .of_acts (enterGap_acts s)
  · exact .refl s

theorem endGap_rows (s : State) : RowsKept s (endGap s) := by
  have hwoken : ∀ u, RowsKept u (wokenCheck u) := by
    intro u
    unfold wokenCheck
    split <;> exact .of_eq rfl
  unfold endGap
  split
  · refine RowsKept.trans (RowsKept.trans ?_ (hwoken _)) (passStart_rows _)
    split
    · exact .of_acts (senseGapEnd_acts s)
    · exact .refl s
  · exact .refl s

end Sys2Proof.Machine
end


section
/-! PROOFS. The Sense Unit's items (R78): what is told of a record touches the long-command slot and the survey marks alone,
what results do to the modules, and that the layout and the modules stay sound. -/

namespace Sys2Proof.Machine

/-! ## What an announcement tells the Sense Unit -/

/-- What a gap-list entry holds apart from its survey mark. -/
def GapEntry.test (e : GapEntry) : Nat × Purpose × Bool := (e.die, e.purpose, e.outstanding)

/-- Going from `s` to `t` the Sense Unit keeps everything but the long-command slot and the survey marks. -/
structure TellsLong (s t : State) : Prop where
  sense : t.sense = { s.sense with long := t.sense.long, gap := t.sense.gap }
  gap : t.sense.gap.map GapEntry.test = s.sense.gap.map GapEntry.test

namespace TellsLong

variable {s t u : State}

theorem refl (s : State) : TellsLong s s := ⟨rfl, rfl⟩

theorem of_eq (h : t.sense = s.sense) : TellsLong s t := ⟨by rw [h], by rw [h]⟩

theorem trans (h : TellsLong s t) (k : TellsLong t u) : TellsLong s u :=
  ⟨by rw [k.sense, h.sense], k.gap.trans h.gap⟩

theorem andSame (h : TellsLong s t) (hsense : u.sense = t.sense := by rfl) : TellsLong s u := h.trans (of_eq hsense)

theorem afterSame (k : TellsLong t u) (hsense : t.sense = s.sense := by rfl) : TellsLong s u := (of_eq hsense).trans k

theorem of_acts {bs : List Block} (h : Acts bs s t) (hsense : Block.sense ∉ bs := by decide) : TellsLong s t :=
  of_eq (h.only .sense hsense)

theorem foldl {β : Type} {f : State → β → State} (h : ∀ s x, TellsLong s (f s x)) (l : List β) (s : State) :
    TellsLong s (l.foldl f s) := by
  induction l generalizing s with
  | nil => exact refl s
  | cons x l ih => exact (h s x).trans (ih _)

theorem modules (h : TellsLong s t) : t.sense.modules = s.sense.modules := by rw [h.sense]
theorem requests (h : TellsLong s t) : t.sense.requests = s.sense.requests := by rw [h.sense]
theorem gapNumber (h : TellsLong s t) : t.sense.gapNumber = s.sense.gapNumber := by rw [h.sense]

theorem gapDies (h : TellsLong s t) : t.sense.gap.map GapEntry.die = s.sense.gap.map GapEntry.die := by
  have hfst : ∀ l : List GapEntry, (l.map GapEntry.test).map Prod.fst = l.map GapEntry.die := fun l => by
    rw [List.map_map]; rfl
  rw [← hfst, h.gap, hfst]

end TellsLong

section Told

variable (die : Nat) (s : State)

theorem setLong_tells (l : LongSlot) : TellsLong s (setLong l s) := ⟨rfl, rfl⟩

theorem endLong_tells (o : LongOutcome) : TellsLong s (endLong o s) :=
  ⟨rfl, by simp [endLong, GapEntry.test]⟩

theorem retestLeft_tells (k : TransitionKind) : TellsLong s (retestLeft k s) := by
  unfold retestLeft
  dsimp only
  split
  · exact ((setLong_tells s _).trans (endLong_tells _ .complete)).andSame
  · exact setLong_tells s _

theorem announce_tells (k : TransitionKind) (f : DieFault) (a b : Bool) : TellsLong s (announce k die f a b s) := by
  have hlog : ∀ t, TellsLong s (offerCapture t (kindEffects k (appendTransition t s))) := fun t =>
    (TellsLong.of_acts (appendTransition_acts t s)).trans
      ((TellsLong.of_acts (kindEffects_acts k _)).trans (.of_acts (offerCapture_acts t _)))
  have hround : ∀ u, TellsLong u (standingRound die u) := fun u => .of_acts (standingRound_acts die u)
  unfold announce
  cases a <;> cases b <;> dsimp only [Bool.false_eq_true, if_true, if_false]
  · exact hlog _
  · exact (hlog _).trans (retestLeft_tells _ k)
  · exact (hlog _).trans (hround _)
  · exact (hlog _).trans ((hround _).trans (retestLeft_tells _ k))

theorem putRecord_announce_tells (r : DefectRecord) (k : TransitionKind) (f : DieFault) (a b : Bool) :
    TellsLong s (announce k die f a b (putRecord die r s)) := (announce_tells die _ k f a b).afterSame

theorem dropRecord_announce_tells (k : TransitionKind) (f : DieFault) (a b : Bool) :
    TellsLong s (announce k die f a b (dropRecord die s)) := (announce_tells die _ k f a b).afterSame

variable {s} in
theorem makeRoom_tells {t : State} (h : makeRoom s = some t) : TellsLong s t := by
  unfold makeRoom at h
  split at h
  · obtain rfl := Option.some.inj h; exact .refl _
  · split at h
    · exact absurd h (by simp)
    · obtain rfl := Option.some.inj h; exact dropRecord_announce_tells _ _ _ _ _ _

theorem judgeSuspect_tells (r : DefectRecord) : TellsLong s (judgeSuspect die r s) := by
  unfold judgeSuspect
  split
  · exact putRecord_announce_tells _ _ _ _ _ _ _
  · split
    · exact dropRecord_announce_tells _ _ _ _ _ _
    · exact .of_eq rfl

theorem judgeRetest_tells (r : DefectRecord) (short : Bool) : TellsLong s (judgeRetest die r short s) := by
  unfold judgeRetest
  split
  · exact putRecord_announce_tells _ _ _ _ _ _ _
  · split
    · exact dropRecord_announce_tells _ _ _ _ _ _
    · exact .of_eq rfl

theorem observeNew_tells (o : TestAnswer) : TellsLong s (observeNew die o s) := by
  unfold observeNew
  cases o with
  | ok => exact .refl s
  | opened =>
    dsimp only
    split
    · exact .of_eq rfl
    · next hroom =>
      exact (makeRoom_tells hroom).trans
        ((putRecord_announce_tells _ _ _ _ _ _ _).trans (judgeSuspect_tells _ _ _))
  | shorted =>
    dsimp only
    split
    · exact .of_eq rfl
    · next hroom =>
      exact (makeRoom_tells hroom).trans
        ((putRecord_announce_tells _ _ _ _ _ _ _).trans (announce_tells _ _ _ _ _ _))

/-- An observation tells the Sense Unit of the long command alone. -/
theorem observe_tells (o : TestAnswer) : TellsLong s (observe die o s) := by
  unfold observe
  split
  · exact observeNew_tells die s o
  · split
    · cases o with
      | ok => exact judgeSuspect_tells _ _ _
      | opened => exact judgeSuspect_tells _ _ _
      | shorted =>
        unfold observeSuspect confirmRecord
        exact putRecord_announce_tells _ _ _ _ _ _ _
    · cases o <;> exact judgeRetest_tells _ _ _ _
    all_goals exact .refl s

theorem abandonOne_tells : TellsLong s (abandonOne s die) := by
  unfold abandonOne
  split
  · exact .refl s
  · exact putRecord_announce_tells _ _ _ _ _ _ _

theorem stopLong_tells (o : LongOutcome) : TellsLong s (stopLong o s) := by
  unfold stopLong
  split
  · exact (TellsLong.foldl (fun s d => abandonOne_tells d s) _ s).trans (endLong_tells _ o)
  · exact endLong_tells s o

theorem beginRetest_tells : TellsLong s (beginRetest s die) := by
  unfold beginRetest
  split
  · exact .refl s
  · exact putRecord_announce_tells _ _ _ _ _ _ _

theorem judgeAnswer_tells (serves : Bool) (o : TestAnswer) : TellsLong s (judgeAnswer die serves o s) := by
  unfold judgeAnswer
  split
  · exact .refl s
  · split
    · dsimp only
      split
      · exact (setLong_tells (count .hotDiscards s) _).afterSame
      · exact .of_eq rfl
    · split
      · exact (setLong_tells s _).trans (observe_tells die _ o)
      · exact observe_tells die s o

end Told

/-! ## The actions -/

section Actions

variable (p : List Byte) (s : State)

theorem actSurvey_tells : TellsLong s (actSurvey p s).1 := by
  unfold actSurvey
  split
  · exact .refl s
  · exact setLong_tells s _

theorem actRetest_tells : TellsLong s (actRetest p s).1 := by
  unfold actRetest
  split
  · exact .refl s
  · have hturned : ∀ (dies : List Nat) (l : LongSlot), TellsLong s (setLong l (dies.foldl beginRetest s)) := fun dies l =>
      (TellsLong.foldl (fun s d => beginRetest_tells d s) dies s).trans (setLong_tells _ l)
    dsimp only
    split
    · exact ((hturned _ _).trans (endLong_tells _ .complete)).andSame
    · exact hturned _ _

theorem actHalt_tells : TellsLong s (actHalt p s).1 := by
  unfold actHalt
  split
  · exact (stopLong_tells s .halted).andSame
  · exact .refl s

theorem actPin_tells : TellsLong s (actPin p s).1 := by
  unfold actPin
  split
  · exact .refl s
  · split
    · exact .refl s
    · split
      · exact .refl s
      · unfold acceptPin
        split
        · unfold pinRecord
          dsimp only
          split
          · exact .refl s
          · exact putRecord_announce_tells _ _ _ _ _ _ _
        · split
          · exact .refl s
          · next hroom =>
            dsimp only
            exact (makeRoom_tells hroom).trans (putRecord_announce_tells _ _ _ _ _ _ _)

theorem actUnpin_tells : TellsLong s (actUnpin p s).1 := by
  unfold actUnpin
  split
  · exact .refl s
  · split
    · exact .refl s
    · split
      · exact .refl s
      · split
        · exact .refl s
        · dsimp only
          exact dropRecord_announce_tells _ _ _ _ _ _

theorem actRestore_tells : TellsLong s (actRestore p s).1 := by
  unfold actRestore
  split
  · exact .refl s
  · split
    · exact .refl s
    · split
      · exact .refl s
      · unfold acceptRestore
        split
        · split
          case h_4 | h_5 => exact putRecord_announce_tells _ _ _ _ _ _ _
          all_goals exact .refl s
        · split
          · exact .refl s
          · next hroom =>
            dsimp only
            exact (makeRoom_tells hroom).trans (putRecord_announce_tells _ _ _ _ _ _ _)

end Actions

theorem fallAsleep_tells (s : State) : TellsLong s (fallAsleep s) := by
  have hcut : TellsLong s (cutForStandby (s.setScan s.scan.asleep)) :=
    (TellsLong.of_acts (cutForStandby_acts (s.setScan s.scan.asleep))).afterSame
  unfold fallAsleep
  dsimp only
  split
  · exact (hcut.trans (stopLong_tells _ .haltedByStandby)).andSame
  · exact hcut

theorem enterStandby_tells (s : State) : TellsLong s (enterStandby s) := by
  unfold enterStandby
  dsimp only
  split
  · exact (fallAsleep_tells s).trans (.of_acts (payOwedReply_acts _))
  · exact fallAsleep_tells s

theorem liveShort_tells (die : Nat) (s : State) : TellsLong s (liveShort die s) := by
  unfold liveShort
  split
  · exact .refl s
  · split
    · exact .refl s
    · split
      · exact .of_eq rfl
      · exact (TellsLong.of_acts (cutChannel_acts _ s)).trans
          ((observe_tells die _ .shorted).trans (.of_acts (cutRound_acts _ _)))

/-! ## Modules -/

/-- A slot's items go from `m` to `m'` without changing whether it is VACANT, and its counts keep their ranges (R78). -/
structure ModuleItem.Kept (m m' : ModuleItem) : Prop where
  vacant : m'.state = .vacant ↔ m.state = .vacant
  settle : m.settle ≤ 8 → m'.settle ≤ 8
  noAnswer : m.noAnswer ≤ 3 → m'.noAnswer ≤ 3

theorem ModuleItem.Kept.refl (m : ModuleItem) : m.Kept m := ⟨Iff.rfl, id, id⟩

theorem ModuleItem.Kept.trans {m n q : ModuleItem} (h : m.Kept n) (k : n.Kept q) : m.Kept q :=
  ⟨k.vacant.trans h.vacant, k.settle ∘ h.settle, k.noAnswer ∘ h.noAnswer⟩

/-- Every slot's items are kept. -/
def ModulesKept (s t : State) : Prop := ∀ i : Fin 8, (s.sense.modules[i]).Kept t.sense.modules[i]

namespace ModulesKept

variable {s t u : State}

theorem of_eq (h : t.sense.modules = s.sense.modules) : ModulesKept s t := fun i => by rw [h]; exact .refl _

theorem refl (s : State) : ModulesKept s s := of_eq rfl

theorem trans (h : ModulesKept s t) (k : ModulesKept t u) : ModulesKept s u := fun i => (h i).trans (k i)

theorem of_acts {bs : List Block} (h : Acts bs s t) (hsense : Block.sense ∉ bs := by decide) : ModulesKept s t :=
  of_eq (congrArg Sense.modules (h.only .sense hsense))

theorem andSame (h : ModulesKept s t) (hmodules : u.sense.modules = t.sense.modules := by rfl) : ModulesKept s u :=
  h.trans (of_eq hmodules)

theorem afterSame (k : ModulesKept t u) (hmodules : t.sense.modules = s.sense.modules := by rfl) : ModulesKept s u :=
  (of_eq hmodules).trans k

theorem foldl {β : Type} {f : State → β → State} (h : ∀ s x, ModulesKept s (f s x)) (l : List β) (s : State) :
    ModulesKept s (l.foldl f s) := by
  induction l generalizing s with
  | nil => exact refl s
  | cons x l ih => exact (h s x).trans (ih _)

end ModulesKept

theorem TellsLong.modulesKept {s t : State} (h : TellsLong s t) : ModulesKept s t := .of_eq h.modules

/-- Reading a slot's items after one slot's were replaced. -/
theorem setModule_modules (i j : Fin 8) (m : ModuleItem) (s : State) :
    (setModule i m s).sense.modules[j] = if j = i then m else s.sense.modules[j] := by
  by_cases h : j = i
  · subst h; simp [setModule]
  · have hne : i.val ≠ j.val := fun heq => h (Fin.ext heq.symm)
    simpa [setModule, h] using Vector.getElem_set_ne i.isLt j.isLt hne

theorem setModule_kept {i : Fin 8} {m : ModuleItem} {s : State} (h : (s.sense.modules[i]).Kept m) :
    ModulesKept s (setModule i m s) := by
  intro j
  rw [setModule_modules]
  split
  · next heq => subst heq; exact h
  · exact .refl _

theorem noAnswerModule_kept (i : Fin 8) (s : State) : ModulesKept s (noAnswerModule i s) := by
  unfold noAnswerModule
  dsimp only
  split
  · next hfalls =>
    have hmodule : (s.sense.modules[i]).Kept
        { s.sense.modules[i] with noAnswer := min 3 (s.sense.modules[i].noAnswer + 1), state := .dark } :=
      ⟨iff_of_false (by simp) (by obtain ⟨-, h | h⟩ := hfalls <;> rw [h] <;> decide), id, fun _ => Nat.min_le_left _ _⟩
    exact (setModule_kept hmodule).trans (.of_acts (bs := planBlocks)
      (Acts.trans ((raise_acts _ _).mono (by decide)) (darkRound_acts _ _)))
  · exact setModule_kept ⟨Iff.rfl, id, fun _ => Nat.min_le_left _ _⟩

theorem answerModule_kept (i : Fin 8) (hot : Bool) (s : State) : ModulesKept s (answerModule i hot s) := by
  have hround : ∀ u, ModulesKept u (darkRound i u) := fun u => .of_acts (darkRound_acts i u)
  have hmodule : ∀ (x : ModuleState) (n : Nat), (s.sense.modules[i]).state ≠ .vacant → x ≠ .vacant →
      ((s.sense.modules[i]).settle ≤ 8 → n ≤ 8) →
      ModulesKept s (setModule i { state := x, settle := n, noAnswer := 0, probeCursor := s.sense.modules[i].probeCursor } s) :=
    fun x n hstate hx hn => setModule_kept ⟨iff_of_false hx hstate, hn, fun _ => Nat.zero_le _⟩
  unfold answerModule
  dsimp only
  split
  · next hdark =>
    have hback := fun x hx => hmodule x 8 (by rw [hdark]; decide) hx (fun _ => le_refl 8)
    split
    · exact (hback .hot (by decide)).andSame.trans (hround _)
    · exact (hback .online (by decide)).trans (hround _)
  · next honline =>
    split
    · exact (hmodule .hot _ (by rw [honline]; decide) (by decide) id).andSame
    · exact setModule_kept ⟨Iff.rfl, id, fun _ => Nat.zero_le _⟩
  · next hhot =>
    split
    · exact setModule_kept ⟨Iff.rfl, id, fun _ => Nat.zero_le _⟩
    · exact hmodule .online 8 (by rw [hhot]; decide) (by decide) (fun _ => le_refl 8)
  · exact setModule_kept ⟨Iff.rfl, id, fun _ => Nat.zero_le _⟩

theorem takeAnswer_modules (x : GapTest) (o : TestAnswer) (hot : Bool) (s : State) :
    ModulesKept s (takeAnswer x o hot s) := by
  unfold takeAnswer
  split
  · exact .refl s
  · split
    · exact .refl s
    · exact (answerModule_kept _ hot (markTaken x.die s)).afterSame.trans (judgeAnswer_tells _ _ _ _).modulesKept

theorem settleFalls_kept (s : State) : ModulesKept s (settleFalls s) := by
  intro i
  simp only [settleFalls, State.setSense_sense, perSlot_get]
  split
  · exact ⟨Iff.rfl, fun h => (Nat.sub_le _ 1).trans h, id⟩
  · exact .refl _

theorem surveyCheck_tells (s : State) : TellsLong s (surveyCheck s) := by
  unfold surveyCheck
  dsimp only
  split
  · exact (endLong_tells s .complete).andSame
  · exact .refl s

theorem senseGapEnd_kept (s : State) : ModulesKept s (senseGapEnd s) := by
  have hone : ∀ u e, ModulesKept u (takeNoAnswer u e) := by
    intro u e
    have hmodule := (noAnswerModule_kept (slotOfChannel (dieChannel e.1)) (markTaken e.1 u)).afterSame (s := u)
    unfold takeNoAnswer
    dsimp only
    split
    · exact hmodule.andSame
    · exact hmodule
  exact ((ModulesKept.foldl hone _ s).trans (settleFalls_kept _)).trans (surveyCheck_tells _).modulesKept |>.andSame

/-! ## The choice of a gap's tests -/

theorem probeSlot_kept (s : State) (i : Fin 8) : ModulesKept s (probeSlot s i) := by
  unfold probeSlot
  split
  · split
    · exact .refl s
    · next d _ =>
      have hcursor : (s.sense.modules[i]).Kept { s.sense.modules[i] with probeCursor := dieAfter d } := ⟨Iff.rfl, id, id⟩
      exact (setModule_kept (s := chooseDie d .probe false s) hcursor).afterSame.andSame
  · exact .refl s

theorem surveyTurn_modules (d : Nat) (s : State) : (surveyTurn d s).sense.modules = s.sense.modules := by
  have hturn : (if s.onDark d then countSkipped s else if s.chosen d then shareTest d s
      else chooseDie d .survey true s).sense.modules = s.sense.modules := by
    split
    · rfl
    · split <;> rfl
  unfold surveyTurn
  split
  · rfl
  · split
    case h_5 | h_6 => exact hturn
    all_goals rfl

theorem surveyStep_modules (n : Nat) (s : State) : (surveyStep n s).sense.modules = s.sense.modules := by
  induction n generalizing s with
  | zero => rfl
  | succ n ih =>
    unfold surveyStep
    split
    · rfl
    · split
      · rfl
      · exact (ih _).trans (surveyTurn_modules _ s)

theorem patrolTake_modules (d : Nat) (s : State) : (patrolTake d s).sense.modules = s.sense.modules := by
  unfold patrolTake
  dsimp only
  split <;> rfl

theorem patrolStep_modules (b : Nat) (s : State) : (patrolStep b s).sense.modules = s.sense.modules := by
  have hone : ∀ u, (patrolOne u).sense.modules = u.sense.modules := by
    intro u
    unfold patrolOne
    dsimp only
    split
    · exact patrolTake_modules _ u
    · split
      · exact patrolTake_modules _ (count .patrolCycles u)
      · rfl
  induction b generalizing s with
  | zero => rfl
  | succ b ih => exact (ih _).trans (hone s)

theorem enterGap_modules (s : State) : ModulesKept s (enterGap s) := by
  have hdue : ∀ u, ModulesKept u (dueStep u) := fun u =>
    ModulesKept.foldl (f := chooseDue) (fun _ _ => .of_eq rfl) _ u
  have hchosen : ∀ u, ModulesKept u (chooseTests u) := by
    intro u
    have hfirst : ModulesKept u (dueStep (probeStep u)) := (ModulesKept.foldl probeSlot_kept _ u).trans (hdue _)
    unfold chooseTests
    dsimp only
    split
    · exact (hfirst.andSame (surveyStep_modules _ _)).andSame (patrolStep_modules _ _)
    · exact hfirst.andSame (patrolStep_modules _ _)
  have hsent : ∀ u, (sendTests u).sense.modules = u.sense.modules := fun u => by rw [sendTests_sense]
  unfold enterGap
  dsimp only
  split
  · exact ((hchosen (numberGap (s.setScan _))).afterSame).andSame (hsent _)
  · exact .of_eq rfl

theorem endPass_modules (s : State) : ModulesKept s (endPass s) := by
  unfold endPass
  split
  · split
    · exact (enterStandby_tells s).modulesKept
    · exact enterGap_modules s
  · exact .refl s

theorem endGap_modules (s : State) : ModulesKept s (endGap s) := by
  have hwoken : ∀ u, ModulesKept u (wokenCheck u) := by
    intro u
    unfold wokenCheck
    split <;> exact .of_eq rfl
  unfold endGap
  split
  · refine ModulesKept.trans (ModulesKept.trans ?_ (hwoken _)) (.of_acts (passStart_acts _))
    split
    · exact senseGapEnd_kept s
    · exact .refl s
  · exact .refl s

/-! ## Layout and modules, every step -/

/-- Going from `s` to `t` the layout stays, and so do the rows and what the modules must keep. -/
structure LayoutKept (s t : State) : Prop where
  layout : t.layout = s.layout
  rows : t.store.length = s.store.length
  modules : ModulesKept s t

theorem LayoutKept.of_acts {bs : List Block} {s t : State} (h : Acts bs s t) (hrows : t.store.length = s.store.length)
    (hmodules : ModulesKept s t) (hlayout : Block.layout ∉ bs := by decide) : LayoutKept s t :=
  ⟨h.only .layout hlayout, hrows, hmodules⟩

/-- A command that touches neither the layout, the store nor the Sense Unit. -/
theorem LayoutKept.of_other {bs : List Block} {s t : State} (h : OnlyChanges bs s t)
    (hlayout : Block.layout ∉ bs := by decide) (hstore : Block.store ∉ bs := by decide)
    (hsense : Block.sense ∉ bs := by decide) : LayoutKept s t :=
  ⟨h .layout hlayout, congrArg List.length (h .store hstore), .of_eq (congrArg Sense.modules (h .sense hsense))⟩

/-- A command that touches the store or the Sense Unit by way of the long command alone. -/
theorem LayoutKept.of_tells {bs : List Block} {s t : State} (h : Acts bs s t) (htells : TellsLong s t)
    (hlayout : Block.layout ∉ bs := by decide) (hstore : Block.store ∉ bs := by decide) : LayoutKept s t :=
  ⟨h.only .layout hlayout, congrArg List.length (h.only .store hstore), htells.modulesKept⟩

/-- The two invariants of the layout and the modules. -/
def LayoutAndModulesSound (s : State) : Prop := LayoutSound s ∧ ModulesSound s

theorem LayoutKept.sound {s t : State} (h : LayoutKept s t) (hs : LayoutAndModulesSound s) : LayoutAndModulesSound t := by
  obtain ⟨hlayout, hmodules⟩ := hs
  refine ⟨?_, fun i => ?_⟩
  · unfold LayoutSound at hlayout ⊢
    rw [h.layout, h.rows]
    exact hlayout
  · obtain ⟨hvacant, hsettle, hrun⟩ := hmodules i
    unfold State.moduleState at hvacant ⊢
    rw [h.layout]
    exact ⟨(h.modules i).vacant.trans hvacant, (h.modules i).settle hsettle, (h.modules i).noAnswer hrun⟩

/-- A value brought into a range lies in it. -/
theorem clampTo_mem {low high : Nat} (n : Nat) (h : low ≤ high) : low ≤ clampTo low high n ∧ clampTo low high n ≤ high := by
  unfold clampTo
  omega

/-- An accepted layout's slot, as stored: its trim in range, FITTED only inside the grid, VACANT as R11 stores it. -/
theorem storedSlot_sound {p : List Byte} {i : Fin 8} (h : slotAccepted p i = true) :
    192 ≤ (storedSlot p i).trim ∧ (storedSlot p i).trim ≤ 320 ∧
      ((storedSlot p i).fitted = true → i.val % 4 < byteAt p 0 ∧ i.val / 4 < byteAt p 1) ∧
      ((storedSlot p i).fitted = false → storedSlot p i = SlotLayout.vacant) := by
  have htrim := clampTo_mem (low := 192) (high := 320) (sentTrim p i) (by decide)
  unfold storedSlot
  split
  · next hfitted =>
    simp only [slotAccepted, hfitted, Bool.or_eq_true, Bool.and_eq_true, decide_eq_true_eq] at h
    obtain h | ⟨⟨-, hcolumn⟩, hrow⟩ := h
    · exact absurd h (by decide)
    · exact ⟨htrim.1, htrim.2, fun _ => ⟨hcolumn, hrow⟩, fun h => absurd h (by simp)⟩
  · exact ⟨by decide, by decide, fun h => absurd h (by decide), fun _ => rfl⟩

/-- What an accepted layout leaves is sound (R10 to R12). -/
theorem acceptLayout_sound {p : List Byte} (h : layoutAccepted p = true) (s : State) :
    LayoutAndModulesSound (acceptLayout p s) := by
  simp only [layoutAccepted, Bool.and_eq_true, decide_eq_true_eq, List.all_eq_true] at h
  obtain ⟨⟨hmc1, hmc4, hmr1, hmr2⟩, hslots⟩ := h
  have hrate := clampTo_mem (low := 240) (high := 3840) (sentPassRate p) (by decide)
  have hslot : ∀ i : Fin 8, (acceptLayout p s).layout.record.slots[i] = storedSlot p i := fun i =>
    perSlot_get (storedSlot p) i
  have hmodule : ∀ i : Fin 8, (acceptLayout p s).sense.modules[i] = freshModule (acceptLayout p s).layout i := fun i =>
    perSlot_get (freshModule _) i
  refine ⟨⟨hmc1, hmc4, hmr1, hmr2, hrate.1, hrate.2, fun i => ?_, ?_⟩, fun i => ?_⟩
  · rw [hslot]; exact storedSlot_sound (hslots i (mem_slotList i))
  · simp [acceptLayout, layoutClears, blackenStore]
  · unfold State.moduleState
    rw [hmodule]
    refine ⟨?_, Nat.zero_le _, Nat.zero_le _⟩
    cases hfitted : (acceptLayout p s).layout.fitted i <;> simp [freshModule, hfitted]

/-! ## RESTART, step by step -/

/-- The Sense Unit's items as RESTART sets them, before a running long command is aborted (R102). -/
def restartItems (s : State) : State :=
  s.setSense { s.sense with
    gap := [], requests := Vector.replicate 8 [], modules := perSlot (restartedModule s), probeTurn := none }

/-- A running long command is aborted (R102). -/
def abortLong (s : State) : State := if s.sense.long.running then stopLong .aborted s else s

theorem restartSense_eq (s : State) : restartSense s = abortLong (restartItems s) := rfl

/-- RESTART up to its round (R187, steps 1 to 3). -/
def restartBlocks (s : State) : State := restartSense (restartPicture (restartCapture s))

theorem restartAll_eq (s : State) :
    restartAll s = (restartRound s.darkSlots (restartBlocks s)).setEvents
      (restartRound s.darkSlots (restartBlocks s)).events.restarted := rfl

theorem abortLong_tells (s : State) : TellsLong s (abortLong s) := by
  unfold abortLong
  split
  · exact stopLong_tells s .aborted
  · exact .refl s

theorem abortLong_acts (s : State) : Acts dieBlocks s (abortLong s) := by
  unfold abortLong
  split
  · exact stopLong_acts .aborted s
  · exact Acts.refl _ s

/-- RESTART makes every FITTED module ONLINE and leaves the others (R102). -/
theorem restartItems_sound {s : State} (h : LayoutAndModulesSound s) : LayoutAndModulesSound (restartItems s) := by
  obtain ⟨hlayout, hmodules⟩ := h
  refine ⟨hlayout, fun i => ?_⟩
  have hmodule : (restartItems s).sense.modules[i] = restartedModule s i := perSlot_get _ i
  obtain ⟨hvacant, hsettle, hrun⟩ := hmodules i
  unfold State.moduleState at hvacant ⊢
  rw [hmodule]
  unfold restartedModule
  split
  · next hfitted =>
    have hnot : ¬ (restartItems s).layout.fitted i = false := by
      rw [show (restartItems s).layout.fitted i = true from hfitted]; decide
    exact ⟨iff_of_false (by decide) hnot, le_refl 8, Nat.zero_le 3⟩
  · exact ⟨hvacant, hsettle, hrun⟩

theorem restartPicture_sound {s : State} (h : LayoutAndModulesSound s) : LayoutAndModulesSound (restartPicture s) := by
  obtain ⟨⟨hmc1, hmc4, hmr1, hmr2, hrate1, hrate2, hslots, -⟩, hmodules⟩ := h
  exact ⟨⟨hmc1, hmc4, hmr1, hmr2, hrate1, hrate2, hslots, List.length_replicate⟩, hmodules⟩

theorem restartAll_sound {s : State} (h : LayoutAndModulesSound s) : LayoutAndModulesSound (restartAll s) := by
  have hcapture : LayoutAndModulesSound (restartCapture s) := h
  have hitems := restartItems_sound (restartPicture_sound hcapture)
  have hblocks : LayoutAndModulesSound (restartBlocks s) := by
    unfold restartBlocks
    rw [restartSense_eq]
    exact (LayoutKept.of_tells (abortLong_acts _) (abortLong_tells _)).sound hitems
  have hround := (LayoutKept.of_other (restartRound_acts s.darkSlots (restartBlocks s)).only).sound hblocks
  rw [restartAll_eq]
  exact (LayoutKept.of_other (setEvents_only _ _)).sound hround

theorem powerOn_layoutAndModulesSound {s t : State} (h : exec .powerOn s = .next t) : LayoutAndModulesSound t := by
  obtain rfl := Host.Outcome.next.inj h
  constructor
  · show LayoutSound State.reset
    unfold LayoutSound
    decide
  · intro i
    have hvacant : Sense.powerOn.modules[i] = ModuleItem.vacant := Vector.getElem_replicate _
    show (Sense.powerOn.modules[i].state = .vacant ↔ State.reset.layout.fitted i = false) ∧
      Sense.powerOn.modules[i].settle ≤ 8 ∧ Sense.powerOn.modules[i].noAnswer ≤ 3
    rw [hvacant]
    exact ⟨iff_of_true rfl rfl, Nat.zero_le 8, Nat.zero_le 3⟩

/-- Every command keeps the layout and the modules sound. -/
theorem commands_keepLayoutAndModules {s : State} (hs : LayoutAndModulesSound s) :
    CommandsKeep LayoutAndModulesSound s where
  control _ _ h := h
  idle := hs
  powerOn _ h := powerOn_layoutAndModulesSound h
  character ch b := (LayoutKept.of_other (takeCharacter_acts ch b s).only).sound hs
  setLayout p := by
    unfold actSetLayout
    split
    · exact hs
    · split
      · exact hs
      · next haccepted => exact acceptLayout_sound (by simpa using haccepted) s
  setParams p := (LayoutKept.of_other (actSetParams_acts p s).only).sound hs
  survey p := (LayoutKept.of_tells (actSurvey_acts p s) (actSurvey_tells p s)).sound hs
  retest p := (LayoutKept.of_tells (actRetest_acts p s) (actRetest_tells p s)).sound hs
  halt p := (LayoutKept.of_tells (actHalt_acts p s) (actHalt_tells p s)).sound hs
  pin p := (LayoutKept.of_tells (actPin_acts p s) (actPin_tells p s)).sound hs
  unpin p := (LayoutKept.of_tells (actUnpin_acts p s) (actUnpin_tells p s)).sound hs
  restore p := (LayoutKept.of_tells (actRestore_acts p s) (actRestore_tells p s)).sound hs
  readTransitions p := (LayoutKept.of_other (actReadTransitions_acts p s).only).sound hs
  armCapture p := (LayoutKept.of_other (actArmCapture_acts p s).only).sound hs
  disarm p := (LayoutKept.of_other (actDisarm_acts p s).only).sound hs
  releaseHold p := (LayoutKept.of_other (actReleaseHold_acts p s).only).sound hs
  standby p := (LayoutKept.of_other (actStandby_acts p s).only).sound hs
  wake p := by
    refine (LayoutKept.of_acts (actWake_acts p s) ?_ (.of_acts (actWake_acts p s))).sound hs
    unfold actWake
    split
    · rfl
    · exact (wakeDisplay_rows s).length
  restart := restartAll_sound hs
  readEvents p := (LayoutKept.of_other (actReadEvents_only p s)).sound hs
  setMask p := (LayoutKept.of_other (actSetMask_only p s)).sound hs
  readCounters p := (LayoutKept.of_other (actReadCounters_acts p s).only).sound hs
  linkByte b :=
    (LayoutKept.of_acts (takeLinkByte_acts b s) (takeLinkByte_rows b s).length (.of_acts (takeLinkByte_acts b s))).sound hs
  lossOfSignal :=
    (LayoutKept.of_acts (takeLossOfSignal_acts s) (takeLossOfSignal_rows s).length
      (.of_acts (takeLossOfSignal_acts s))).sound hs
  lightRow := (LayoutKept.of_other (lightRow_acts s).only).sound hs
  passEnd := (LayoutKept.of_acts (endPass_acts s) (endPass_rows s).length (endPass_modules s)).sound hs
  gapEnd := (LayoutKept.of_acts (endGap_acts s) (endGap_rows s).length (endGap_modules s)).sound hs
  answer x o hot :=
    (LayoutKept.of_acts (takeAnswer_acts x o hot s)
      (congrArg List.length (takeAnswer_acts x o hot s).only.store) (takeAnswer_modules x o hot s)).sound hs
  liveShort d := (LayoutKept.of_tells (liveShort_acts d s) (liveShort_tells d s)).sound hs

/-- Settles O59, command by command: an accepted SET_LAYOUT, RESTART and POWER_ON set what the invariants speak of, and every
other command keeps it. -/
theorem layoutAndModulesStaySound : Obligations.LayoutAndModulesStaySound := by
  intro s t hlayout hmodules hstep
  exact step_keeps (P := LayoutAndModulesSound) (fun _ h => h)
    (fun c x hexec hs => (commands_keepLayoutAndModules hs).exec hexec) hstep ⟨hlayout, hmodules⟩

end Sys2Proof.Machine
end


section
/-! PROOFS. The gap list (R78 to R84): the choice of a gap's tests keeps it within the budget, on present dies, no die twice,
and every record and every test stays on a present die. -/

namespace Sys2Proof.Machine

/-! ## The gap list while it is filled -/

/-- The slot a die lies on. -/
def slotOfDie (d : Nat) : Fin 8 := slotOfChannel (dieChannel d)

/-- The dies of the gap list, in the order they were chosen. -/
def State.gapDies (s : State) : List Nat := s.sense.gap.map GapEntry.die

theorem chosen_iff (s : State) (d : Nat) : s.chosen d = true ↔ d ∈ s.gapDies := by
  simp only [State.chosen, State.gapDies, List.any_eq_true, beq_iff_eq, List.mem_map]

theorem chosen_eq_false_iff (s : State) (d : Nat) : s.chosen d = false ↔ d ∉ s.gapDies := by
  rw [← chosen_iff, Bool.not_eq_true]

@[simp] theorem chooseDie_gapDies (d : Nat) (p : Purpose) (b : Bool) (s : State) :
    (chooseDie d p b s).gapDies = s.gapDies ++ [d] := by
  simp [State.gapDies, chooseDie]

@[simp] theorem shareTest_gapDies (d : Nat) (s : State) : (shareTest d s).gapDies = s.gapDies := by
  simp only [State.gapDies, shareTest, State.setSense_sense, List.map_map]
  exact List.map_congr_left fun e _ => by simp only [Function.comp_apply]; split <;> rfl

theorem budgetLeft_pos_iff (s : State) : 0 < s.budgetLeft ↔ s.gapDies.length < s.params.b := by
  simp only [State.budgetLeft, State.gapDies, List.length_map]
  omega

/-- The gap list is within the budget and holds present dies, no die twice (R78, R80). -/
structure GapFits (s : State) : Prop where
  length : s.gapDies.length ≤ s.params.b
  nodup : s.gapDies.Nodup
  present : ∀ d ∈ s.gapDies, s.layout.presentDie d = true

namespace GapFits

variable {s t : State}

theorem of_dies (h : GapFits s) (hdies : t.gapDies = s.gapDies := by rfl) (hlayout : t.layout = s.layout := by rfl)
    (hparams : t.params = s.params := by rfl) : GapFits t :=
  ⟨by rw [hdies, hparams]; exact h.length, by rw [hdies]; exact h.nodup, by rw [hdies, hlayout]; exact h.present⟩

/-- A present die that is not in the list may join it while budget remains. -/
theorem chooseDie (h : GapFits s) {d : Nat} (p : Purpose) (b : Bool) (hpresent : s.layout.presentDie d = true)
    (hnew : d ∉ s.gapDies) (hroom : s.gapDies.length < s.params.b) : GapFits (Machine.chooseDie d p b s) := by
  refine ⟨?_, ?_, fun e he => ?_⟩
  · rw [chooseDie_gapDies, List.length_append]; exact hroom
  · rw [chooseDie_gapDies]
    exact h.nodup.append (List.nodup_singleton d) (List.disjoint_singleton.mpr hnew)
  · rw [chooseDie_gapDies, List.mem_append, List.mem_singleton] at he
    obtain he | rfl := he
    · exact h.present e he
    · exact hpresent

end GapFits

/-! ## Step 1: probes -/

/-- The die a probe tests is one it may test. -/
theorem probeable_of_probeDie {s : State} {i : Fin 8} {d : Nat} (h : s.probeDie i = some d) : s.probeable i d = true := by
  unfold State.probeDie at h
  dsimp only at h
  split at h
  · next hfirst => obtain rfl := Option.some.inj h; exact (firstFrom_some hfirst).1
  · exact (firstFrom_some h).1

/-- A module's turn adds a die of its slot, or nothing. -/
theorem probeSlot_gapDies (s : State) (i : Fin 8) :
    (probeSlot s i).gapDies = s.gapDies ∨
      ∃ d, s.probeable i d = true ∧ s.gapDies.length < s.params.b ∧ (probeSlot s i).gapDies = s.gapDies ++ [d] := by
  unfold probeSlot
  split
  · next hturn =>
    split
    · exact Or.inl rfl
    · next d hd =>
      exact Or.inr ⟨d, probeable_of_probeDie hd, (budgetLeft_pos_iff s).mp hturn.2, chooseDie_gapDies d .probe false s⟩
  · exact Or.inl rfl

theorem probeSlot_fits {s : State} {i : Fin 8} (h : GapFits s) (hfree : ∀ d ∈ s.gapDies, slotOfDie d ≠ i) :
    GapFits (probeSlot s i) ∧ ∀ d ∈ (probeSlot s i).gapDies, d ∈ s.gapDies ∨ slotOfDie d = i := by
  have hacts := (probeSlot_acts s i).only
  obtain hsame | ⟨d, hd, hroom, hadd⟩ := probeSlot_gapDies s i
  · exact ⟨h.of_dies hsame hacts.layout hacts.params, fun d hd => Or.inl (hsame ▸ hd)⟩
  · simp only [State.probeable, Bool.and_eq_true, decide_eq_true_eq] at hd
    obtain ⟨⟨hpresent, hslot⟩, -⟩ := hd
    have hnew : d ∉ s.gapDies := fun hmem => hfree d hmem hslot
    have hfits := h.chooseDie .probe false hpresent hnew hroom
    refine ⟨hfits.of_dies ?_ hacts.layout hacts.params, fun e he => ?_⟩
    · rw [hadd, chooseDie_gapDies]
    · rw [hadd, List.mem_append, List.mem_singleton] at he
      exact he.imp_right fun heq => by rw [heq]; exact hslot

theorem slotsAfter_nodup (t : Option (Fin 8)) : (slotsAfter t).Nodup := by revert t; decide

theorem probeStep_fits {s : State} (h : GapFits s) (hempty : s.gapDies = []) : GapFits (probeStep s) := by
  have hfold : ∀ (l : List (Fin 8)) (u : State), l.Nodup → GapFits u → (∀ d ∈ u.gapDies, slotOfDie d ∉ l) →
      GapFits (l.foldl probeSlot u) := by
    intro l
    induction l with
    | nil => exact fun u _ hu _ => hu
    | cons i l ih =>
      intro u hl hu hfree
      obtain ⟨hi, hl⟩ := List.nodup_cons.mp hl
      obtain ⟨hfits, hdies⟩ := probeSlot_fits hu fun d hd heq => hfree d hd (heq ▸ List.mem_cons_self)
      refine ih _ hl hfits fun d hd hmem => ?_
      obtain hold | hslot := hdies d hd
      · exact hfree d hold (List.mem_cons_of_mem i hmem)
      · exact hi (hslot ▸ hmem)
  exact hfold _ s (slotsAfter_nodup _) h (by simp [hempty])

/-! ## Step 2: due tests -/

/-- The keys of a canonical table stand in ascending order. -/
theorem Table.keys_pairwise {α : Type} {t : Table α} (h : Table.canonical t = true) : (Table.keys t).Pairwise (· < ·) := by
  rw [Table.canonical_iff] at h
  exact List.pairwise_map.mpr h

theorem Table.keys_nodup {α : Type} {t : Table α} (h : Table.canonical t = true) : (Table.keys t).Nodup :=
  (Table.keys_pairwise h).imp Nat.ne_of_lt

theorem mem_dueOrder {s : State} {d : Nat} : d ∈ s.dueOrder ↔ d ∈ Table.keys (s.map.records.filter s.due) := by
  unfold State.dueOrder
  dsimp only
  split
  · rfl
  · next p =>
    simp only [List.mem_append, List.mem_filter, decide_eq_true_eq, ← and_or_left, and_iff_left_iff_imp]
    omega

theorem dueOrder_nodup {s : State} (h : Table.canonical s.map.records = true) : s.dueOrder.Nodup := by
  have hkeys := Table.keys_nodup (Table.canonical_filter s.due h)
  unfold State.dueOrder
  dsimp only
  split
  · exact hkeys
  · refine (hkeys.filter _).append (hkeys.filter _) fun d hlow hhigh => ?_
    simp only [List.mem_filter, decide_eq_true_eq] at hlow hhigh
    omega

/-- A due die has a record, and the probe step has not chosen it (R82). -/
theorem due_of_mem_dueOrder {s : State} {d : Nat} (h : d ∈ s.dueOrder) :
    (∃ e ∈ s.map.records, e.1 = d) ∧ d ∉ s.gapDies := by
  obtain ⟨e, he, rfl⟩ := List.mem_map.mp (mem_dueOrder.mp h)
  obtain ⟨hmem, hdue⟩ := List.mem_filter.mp he
  simp only [State.due, Bool.and_eq_true, Bool.not_eq_true'] at hdue
  exact ⟨⟨e, hmem, rfl⟩, (chosen_eq_false_iff s e.1).mp hdue.2⟩

theorem chooseDue_gapDies (s : State) (d : Nat) : (chooseDue s d).gapDies = s.gapDies ++ [d] :=
  chooseDie_gapDies d .dueTest false s

theorem dueStep_fits {s : State} (h : GapFits s) (hcanonical : Table.canonical s.map.records = true)
    (hpresent : RecordsPresent s) : GapFits (dueStep s) := by
  have hfold : ∀ (l : List Nat) (u : State), l.Nodup → GapFits u → u.gapDies.length + l.length ≤ u.params.b →
      (∀ d ∈ l, u.layout.presentDie d = true ∧ d ∉ u.gapDies) → GapFits (l.foldl chooseDue u) := by
    intro l
    induction l with
    | nil => exact fun u _ hu _ _ => hu
    | cons d l ih =>
      intro u hl hu hroom hdies
      obtain ⟨hd, hl⟩ := List.nodup_cons.mp hl
      obtain ⟨hpresent, hnew⟩ := hdies d List.mem_cons_self
      rw [List.length_cons] at hroom
      have hfits : GapFits (chooseDue u d) :=
        (hu.chooseDie .dueTest false hpresent hnew (by omega)).of_dies
      refine ih _ hl hfits ?_ fun e he => ⟨(hdies e (List.mem_cons_of_mem d he)).1, ?_⟩
      · rw [chooseDue_gapDies, List.length_append, List.length_singleton]
        show _ ≤ u.params.b
        omega
      · rw [chooseDue_gapDies, List.mem_append, List.mem_singleton, not_or]
        exact ⟨(hdies e (List.mem_cons_of_mem d he)).2, fun heq => hd (heq ▸ he)⟩
  refine hfold _ s ((dueOrder_nodup hcanonical).sublist (List.take_sublist _ _)) h ?_ fun d hd => ?_
  · have hlen : (s.dueOrder.take s.budgetLeft).length ≤ s.budgetLeft := List.length_take_le _ _
    have hfit := h.length
    simp only [State.budgetLeft, State.gapDies, List.length_map] at hlen hfit ⊢
    omega
  · obtain ⟨⟨e, he, rfl⟩, hnew⟩ := due_of_mem_dueOrder (List.mem_of_mem_take hd)
    exact ⟨hpresent e he, hnew⟩

/-! ## Steps 3 and 4: the survey and the patrol -/

theorem surveyTurn_fits {s : State} (d : Nat) (h : GapFits s) (hroom : s.budgetLeft ≠ 0) : GapFits (surveyTurn d s) := by
  unfold surveyTurn
  split
  · exact h
  · next hpresent =>
    have hturn : GapFits (if s.onDark d then countSkipped s else if s.chosen d then shareTest d s
        else chooseDie d .survey true s) := by
      split
      · exact h.of_dies
      · split
        · exact h.of_dies (shareTest_gapDies d s)
        · next hnew =>
          exact h.chooseDie .survey true (by simpa using hpresent) (fun hmem => hnew ((chosen_iff s d).mpr hmem))
            ((budgetLeft_pos_iff s).mp (Nat.pos_of_ne_zero hroom))
    split
    case h_5 | h_6 => exact hturn
    all_goals exact h

theorem surveyStep_fits (n : Nat) {s : State} (h : GapFits s) : GapFits (surveyStep n s) := by
  induction n generalizing s with
  | zero => exact h
  | succ n ih =>
    unfold surveyStep
    split
    · exact h
    · split
      · exact h
      · next hroom => exact ih ((surveyTurn_fits _ h hroom).of_dies)

theorem patrolTake_gapDies (d : Nat) (s : State) : (patrolTake d s).gapDies = s.gapDies ++ [d] := by
  unfold patrolTake
  dsimp only
  split <;> exact chooseDie_gapDies d .patrol false s

theorem patrolTake_fits {s : State} {d : Nat} (h : GapFits s) (hd : s.patrollable d = true)
    (hroom : s.gapDies.length < s.params.b) : GapFits (patrolTake d s) := by
  simp only [State.patrollable, Bool.and_eq_true, Bool.not_eq_true'] at hd
  obtain ⟨⟨⟨hpresent, -⟩, -⟩, hnew⟩ := hd
  have hacts := (patrolTake_acts d s).only
  have hfits := h.chooseDie .patrol false hpresent ((chosen_eq_false_iff s d).mp hnew) hroom
  exact hfits.of_dies (by rw [patrolTake_gapDies, chooseDie_gapDies]) hacts.layout hacts.params

theorem patrolOne_fits {s : State} (h : GapFits s) (hroom : s.gapDies.length < s.params.b) :
    GapFits (patrolOne s) ∧ (patrolOne s).gapDies.length ≤ s.gapDies.length + 1 := by
  have htake : ∀ (u : State) (d : Nat), (patrolTake d u).gapDies.length = u.gapDies.length + 1 := fun u d => by
    rw [patrolTake_gapDies, List.length_append, List.length_singleton]
  unfold patrolOne
  dsimp only
  split
  · next hd => exact ⟨patrolTake_fits h (firstFrom_some hd).1 hroom, (htake s _).le⟩
  · split
    · next d hd =>
      have hcounted : GapFits (count .patrolCycles s) := h.of_dies
      exact ⟨patrolTake_fits hcounted (firstFrom_some hd).1 hroom, (htake (count .patrolCycles s) d).le⟩
    · exact ⟨h, Nat.le_succ _⟩

theorem patrolStep_fits (b : Nat) {s : State} (h : GapFits s) (hroom : s.gapDies.length + b ≤ s.params.b) :
    GapFits (patrolStep b s) := by
  induction b generalizing s with
  | zero => exact h
  | succ b ih =>
    obtain ⟨hfits, hlen⟩ := patrolOne_fits h (by omega)
    refine ih hfits ?_
    rw [(patrolOne_acts s).only.params]
    omega

/-- The choice of a gap's tests, from an empty list on (R80). -/
theorem chooseTests_fits {s : State} (hempty : s.gapDies = []) (hcanonical : Table.canonical s.map.records = true)
    (hpresent : RecordsPresent s) : GapFits (chooseTests s) := by
  have hstart : GapFits s := ⟨by simp [hempty], by simp [hempty], by simp [hempty]⟩
  have hprobe := probeStep_fits hstart hempty
  have hacts := (probeStep_acts s).only
  have hmap : (probeStep s).map = s.map := hacts.map
  have hlayout : (probeStep s).layout = s.layout := hacts.layout
  have hdue : GapFits (dueStep (probeStep s)) := by
    refine dueStep_fits hprobe (hmap ▸ hcanonical) fun e he => ?_
    rw [hlayout]
    exact hpresent e (hmap ▸ he)
  have hpatrol : ∀ u, GapFits u → GapFits (patrolStep u.budgetLeft u) := fun u hu =>
    patrolStep_fits _ hu (by
      have hlen := hu.length
      simp only [State.budgetLeft, State.gapDies, List.length_map] at hlen ⊢
      omega)
  unfold chooseTests
  dsimp only
  split
  · exact hpatrol _ (surveyStep_fits _ hdue)
  · exact hpatrol _ hdue

/-! ## The gap list and its requests, every step -/

/-- Each port has been sent its slot's dies of the gap list, in order (R79). -/
theorem sendTests_requests (s : State) (i : Fin 8) :
    (sendTests s).sense.requests[i] = s.gapDies.filter fun d => decide (slotOfChannel (dieChannel d) = i) := by
  rw [sendTests_sense]
  simp only [perSlot_get, State.gapDiesOn, State.gapDies, List.filter_map]
  rfl

/-- What a gap start leaves is sound (R78 to R80). -/
theorem gapStart_sound {s : State} (hb : s.params.b ≤ 8) (hempty : s.sense.gap = [])
    (hcanonical : Table.canonical s.map.records = true) (hpresent : RecordsPresent s) : GapSound (gapStart s) := by
  have hnumbered : (numberGap s).gapDies = [] := by
    show s.sense.gap.map GapEntry.die = []
    rw [hempty]
    rfl
  have hfits := chooseTests_fits hnumbered hcanonical hpresent
  have hgap : (gapStart s).sense.gap = (chooseTests (numberGap s)).sense.gap := by
    unfold gapStart; rw [sendTests_sense]
  have hdies : (gapStart s).sense.gap.map GapEntry.die = (chooseTests (numberGap s)).gapDies := by rw [hgap]; rfl
  have hlayout : (gapStart s).layout = (chooseTests (numberGap s)).layout := (sendTests_acts _).only.layout
  have hparams : (chooseTests (numberGap s)).params = s.params := (chooseTests_acts (numberGap s)).only.params
  refine ⟨?_, ?_, fun e he => ?_, fun i => ?_⟩
  · have hlen := hfits.length
    rw [hparams, ← hdies, List.length_map] at hlen
    omega
  · rw [hdies]; exact hfits.nodup
  · rw [hlayout]
    exact hfits.present e.die (hdies ▸ List.mem_map_of_mem he)
  · rw [hdies]; exact sendTests_requests _ i

/-- The tests in the gap list, the requests sent for them and the layout stay. -/
structure TestsKept (s t : State) : Prop where
  layout : t.layout = s.layout
  dies : t.gapDies = s.gapDies
  requests : t.sense.requests = s.sense.requests

theorem TestsKept.of_tells {s t : State} (h : TellsLong s t) (hlayout : t.layout = s.layout) : TestsKept s t :=
  ⟨hlayout, h.gapDies, h.requests⟩

theorem TestsKept.of_eq {s t : State} (h : t.sense = s.sense) (hlayout : t.layout = s.layout) : TestsKept s t :=
  .of_tells (.of_eq h) hlayout

theorem gapSound_iff (s : State) : GapSound s ↔ s.gapDies.length ≤ 8 ∧ s.gapDies.Nodup ∧
    (∀ d ∈ s.gapDies, s.layout.presentDie d = true) ∧
    ∀ i : Fin 8, s.sense.requests[i] = s.gapDies.filter fun d => decide (slotOfChannel (dieChannel d) = i) := by
  simp only [GapSound, State.gapDies, List.length_map, List.mem_map, forall_exists_index, and_imp,
    forall_apply_eq_imp_iff₂]

theorem TestsKept.gapSound {s t : State} (h : TestsKept s t) (hs : GapSound s) : GapSound t := by
  rw [gapSound_iff] at hs ⊢
  rw [h.layout, h.dies, h.requests]
  exact hs

/-- With the list empty nothing has been sent, whatever the layout. -/
theorem gapSound_of_empty {s : State} (hgap : s.sense.gap = []) (hrequests : s.sense.requests = Vector.replicate 8 []) :
    GapSound s := by
  unfold GapSound
  rw [hgap, hrequests]
  exact ⟨Nat.zero_le 8, List.nodup_nil, fun e he => absurd he List.not_mem_nil, fun i => Vector.getElem_replicate _⟩

theorem requests_of_empty {s : State} (h : GapSound s) (hgap : s.sense.gap = []) :
    s.sense.requests = Vector.replicate 8 [] := by
  obtain ⟨-, -, -, hrequests⟩ := h
  refine Vector.ext fun i hi => ?_
  have hslot := hrequests ⟨i, hi⟩
  rw [hgap] at hslot
  rw [Vector.getElem_replicate]
  exact hslot

theorem markTaken_gapDies (d : Nat) (s : State) : (markTaken d s).gapDies = s.gapDies := by
  simp only [State.gapDies, markTaken, State.setSense_sense, List.map_map]
  exact List.map_congr_left fun e _ => by simp only [Function.comp_apply]; split <;> rfl

theorem setModule_gap (i : Fin 8) (m : ModuleItem) (s : State) : (setModule i m s).sense.gap = s.sense.gap := rfl

/-- An answer moves its module's items alone in the Sense Unit (R88, R89). -/
theorem answerModule_sense (i : Fin 8) (hot : Bool) (s : State) :
    ∃ m, (answerModule i hot s).sense = (setModule i m s).sense := by
  have hround : ∀ u, (darkRound i u).sense = u.sense := fun u => (darkRound_acts i u).only.sense
  unfold answerModule
  dsimp only
  split <;> (try split) <;> (try rw [hround]) <;> exact ⟨_, rfl⟩

theorem answerModule_testsKept (i : Fin 8) (hot : Bool) (s : State) : TestsKept s (answerModule i hot s) := by
  obtain ⟨m, hm⟩ := answerModule_sense i hot s
  refine ⟨(answerModule_acts i hot s).only.layout, ?_, by rw [hm]; rfl⟩
  unfold State.gapDies
  rw [hm]
  rfl

theorem takeAnswer_testsKept (x : GapTest) (o : TestAnswer) (hot : Bool) (s : State) : TestsKept s (takeAnswer x o hot s) := by
  refine ⟨(takeAnswer_acts x o hot s).only.layout, ?_, ?_⟩ <;> unfold takeAnswer
  · split
    · rfl
    · split
      · rfl
      · exact (judgeAnswer_tells _ _ _ _).gapDies.trans
          ((answerModule_testsKept _ hot _).dies.trans (markTaken_gapDies x.die s))
  · split
    · rfl
    · split
      · rfl
      · exact (judgeAnswer_tells _ _ _ _).requests.trans (answerModule_testsKept _ hot (markTaken x.die s)).requests

theorem restartAll_sense_gap (s : State) :
    (restartAll s).sense.gap = [] ∧ (restartAll s).sense.requests = Vector.replicate 8 [] := by
  have htold : TellsLong (restartItems (restartPicture (restartCapture s))) (restartAll s) := by
    rw [restartAll_eq]
    exact ((abortLong_tells _).trans (.of_acts (restartRound_acts s.darkSlots (restartBlocks s)))).andSame
  exact ⟨List.map_eq_nil_iff.mp htold.gapDies, htold.requests⟩

/-- The premises of the step statement about records and tests. -/
structure TestsSound (s : State) : Prop where
  params : ParamsInRange s
  display : DisplayConsistent s
  canonical : Table.canonical s.map.records = true
  records : RecordsPresent s
  gap : GapSound s

theorem TestsSound.gap_empty_of_not_gap {s : State} (h : TestsSound s)
    (hphase : s.scan.display ≠ .active ∨ s.scan.phase ≠ .gap) : s.sense.gap = [] := by
  obtain ⟨-, -, -, hout⟩ := h.display
  by_contra hgap
  obtain ⟨hactive, hin⟩ := hout hgap
  exact hphase.elim (fun h => h hactive) (fun h => h hin)

theorem enterGap_gapSound {s : State} (h : TestsSound s) (hphase : s.scan.phase = .pass) : GapSound (enterGap s) := by
  obtain ⟨-, -, -, -, -, -, hb, -⟩ := h.params
  have hempty : s.sense.gap = [] := h.gap_empty_of_not_gap (Or.inr (by rw [hphase]; decide))
  unfold enterGap
  dsimp only
  split
  · exact gapStart_sound hb hempty h.canonical h.records
  · exact h.gap

theorem endPass_gapSound {s : State} (h : TestsSound s) : GapSound (endPass s) := by
  unfold endPass
  split
  · next hend =>
    split
    · exact (TestsKept.of_tells (enterStandby_tells s) (enterStandby_acts s).only.layout).gapSound h.gap
    · exact enterGap_gapSound h hend.1
  · exact h.gap

theorem endGap_gapSound {s : State} (h : TestsSound s) : GapSound (endGap s) := by
  have hwoken : ∀ u, TestsKept u (wokenCheck u) := by
    intro u
    unfold wokenCheck
    split <;> exact ⟨rfl, rfl, rfl⟩
  have hpass : ∀ u, TestsKept u (passStart u) := fun u =>
    .of_eq (passStart_acts u).only.sense (passStart_acts u).only.layout
  unfold endGap
  split
  · refine (hpass _).gapSound ((hwoken _).gapSound ?_)
    split
    · exact gapSound_of_empty rfl rfl
    · exact h.gap
  · exact h.gap

/-- Every command keeps the gap list sound, and keeps the layout but where it empties the map. -/
theorem commands_keepTests {s : State} (hs : TestsSound s) :
    CommandsKeep (fun t => GapSound t ∧ (t.layout = s.layout ∨ t.map.records = [])) s := by
  have hkept : ∀ {t : State}, TestsKept s t → GapSound t ∧ (t.layout = s.layout ∨ t.map.records = []) :=
    fun h => ⟨h.gapSound hs.gap, Or.inl h.layout⟩
  have hother : ∀ {bs : List Block} {t : State}, OnlyChanges bs s t → (_ : Block.sense ∉ bs := by decide) →
      (_ : Block.layout ∉ bs := by decide) → GapSound t ∧ (t.layout = s.layout ∨ t.map.records = []) :=
    fun h hsense hlayout => hkept (.of_eq (h .sense hsense) (h .layout hlayout))
  exact {
    control := fun _ _ h => h
    idle := ⟨hs.gap, Or.inl rfl⟩
    powerOn := fun t h => by obtain rfl := Host.Outcome.next.inj h; exact ⟨gapSound_of_empty rfl rfl, Or.inr rfl⟩
    character := fun ch b => hother (takeCharacter_acts ch b s).only
    setLayout := fun p => by
      unfold actSetLayout
      split
      · exact ⟨hs.gap, Or.inl rfl⟩
      · next hstandby =>
        split
        · exact ⟨hs.gap, Or.inl rfl⟩
        · have hempty : s.sense.gap = [] := hs.gap_empty_of_not_gap (Or.inl fun h => hstandby (by rw [h]; decide))
          refine ⟨gapSound_of_empty (s := acceptLayout p s) hempty ?_, Or.inr rfl⟩
          exact requests_of_empty (s := s) hs.gap hempty
    setParams := fun p => hother (actSetParams_acts p s).only
    survey := fun p => hkept (.of_tells (actSurvey_tells p s) (actSurvey_acts p s).only.layout)
    retest := fun p => hkept (.of_tells (actRetest_tells p s) (actRetest_acts p s).only.layout)
    halt := fun p => hkept (.of_tells (actHalt_tells p s) (actHalt_acts p s).only.layout)
    pin := fun p => hkept (.of_tells (actPin_tells p s) (actPin_acts p s).only.layout)
    unpin := fun p => hkept (.of_tells (actUnpin_tells p s) (actUnpin_acts p s).only.layout)
    restore := fun p => hkept (.of_tells (actRestore_tells p s) (actRestore_acts p s).only.layout)
    readTransitions := fun p => hother (actReadTransitions_acts p s).only
    armCapture := fun p => hother (actArmCapture_acts p s).only
    disarm := fun p => hother (actDisarm_acts p s).only
    releaseHold := fun p => hother (actReleaseHold_acts p s).only
    standby := fun p => hother (actStandby_acts p s).only
    wake := fun p => hother (actWake_acts p s).only
    restart := ⟨gapSound_of_empty (restartAll_sense_gap s).1 (restartAll_sense_gap s).2,
      Or.inl ((restartRound_acts s.darkSlots (restartBlocks s)).only.layout.trans (abortLong_acts _).only.layout)⟩
    readEvents := fun p => hother (actReadEvents_only p s)
    setMask := fun p => hother (actSetMask_only p s)
    readCounters := fun p => hother (actReadCounters_acts p s).only
    linkByte := fun b => hother (takeLinkByte_acts b s).only
    lossOfSignal := hother (takeLossOfSignal_acts s).only
    lightRow := hother (lightRow_acts s).only
    passEnd := ⟨endPass_gapSound hs, Or.inl (endPass_acts s).only.layout⟩
    gapEnd := ⟨endGap_gapSound hs, Or.inl (endGap_acts s).only.layout⟩
    answer := fun x o hot => hkept (takeAnswer_testsKept x o hot s)
    liveShort := fun d => hkept (.of_tells (liveShort_tells d s) (liveShort_acts d s).only.layout) }

/-- Settles O60: the records by `RecordEdits.keys`, the tests by the choice of a gap's tests and what leaves them alone. -/
theorem recordsAndTestsNamePresentDies : Obligations.RecordsAndTestsNamePresentDies := by
  intro s t hparams hdisplay hcanonical hrecords hgap hstep
  have hsound : TestsSound s := ⟨hparams, hdisplay, hcanonical, hrecords, hgap⟩
  unfold step at hstep
  split at hstep
  · obtain rfl := Host.Outcome.next.inj hstep
    exact ⟨hrecords, hgap⟩
  · next c rest _ =>
    have hsound' : TestsSound (s.setPending rest) := ⟨hparams, hdisplay, hcanonical, hrecords, hgap⟩
    obtain ⟨hgap', hlayout⟩ := (commands_keepTests hsound').exec hstep
    refine ⟨fun e he => ?_, hgap'⟩
    have hnotEmpty : t.map.records ≠ [] := List.ne_nil_of_mem he
    have hedits := ((commands_editRecords _).exec hstep).resolve_right hnotEmpty
    rw [hlayout.resolve_right hnotEmpty]
    obtain hok | ⟨f, hf, hkey⟩ := hedits.keys e he
    · obtain hpresent | hlisted := hok
      · exact hpresent
      · obtain ⟨g, hg, hdie⟩ := List.mem_map.mp hlisted
        obtain ⟨-, -, hpresent, -⟩ := hgap
        rw [← hdie]
        exact hpresent g hg
    · rw [← hkey]
      exact hrecords f hf

end Sys2Proof.Machine
end


section
/-! PROOFS. The recompute of a LOST channel: what it leaves in the Boost Table, as a function of the table it found
(R136, R143 to R145), and that the shares aimed at a channel stay within 256 (R133). -/

namespace Sys2Proof.Machine

/-! ## Neighbours by their index -/

/-- How far off the neighbour in a direction lies, in channel indices (R3, R6). -/
def Direction.offset : Direction → Int
  | .left => -3
  | .up => -576
  | .right => 3
  | .down => 576

theorem Direction.offset_injective : Function.Injective Direction.offset := by
  intro d d'
  cases d <;> cases d' <;> decide

@[simp] theorem Direction.opposite_opposite (d : Direction) : d.opposite.opposite = d := by cases d <;> rfl

theorem Direction.opposite_inj {d d' : Direction} (h : d.opposite = d'.opposite) : d = d' := by
  rw [← d.opposite_opposite, h, d'.opposite_opposite]

section Neighbours
variable {l : Layout} {n n' m : Nat} {d d' : Direction}

theorem neighbour_offset (h : l.neighbour n d = some m) : (m : Int) = n + d.offset := by
  have hif : ∀ {x y c : Nat}, l.channelIf x y c = some m → m = channelAt x y c := fun h => by
    unfold Layout.channelIf at h
    split at h
    · exact (Option.some.inj h).symm
    · exact absurd h (by simp)
  cases d
  case left | up =>
    unfold Layout.neighbour at h
    dsimp only at h
    split at h
    · exact absurd h (by simp)
    · have hm := hif h
      simp only [channelAt, channelX, channelY, channelColour, Direction.offset] at *
      omega
  case right | down =>
    have hm := hif h
    simp only [channelAt, channelX, channelY, channelColour, Direction.offset] at *
    omega

/-- A channel is the neighbour of another in one direction at most. -/
theorem neighbour_direction_unique (h : l.neighbour n d = some m) (h' : l.neighbour n d' = some m) : d = d' := by
  have ho := neighbour_offset h
  have ho' := neighbour_offset h'
  exact Direction.offset_injective (by omega)

/-- A channel is the neighbour in one direction of one channel at most. -/
theorem neighbour_channel_unique (h : l.neighbour n d = some m) (h' : l.neighbour n' d = some m) : n = n' := by
  have ho := neighbour_offset h
  have ho' := neighbour_offset h'
  omega

theorem mem_neighbours : m ∈ l.neighbours n ↔ ∃ d, l.neighbour n d = some m := by
  simp [Layout.neighbours]

end Neighbours

/-! ## Entries by their shares -/

section Entries
variable (e f : BoostEntry) (d d' : Direction)

@[simp] theorem BoostEntry.share_with (x : Option Nat) : (e.with d x).share d' = if d' = d then x else e.share d' := by
  cases d <;> cases d' <;> rfl

@[simp] theorem BoostEntry.share_empty : BoostEntry.empty.share d = none := by cases d <;> rfl

variable {e f} in
theorem BoostEntry.ext_share (h : ∀ d, e.share d = f.share d) : e = f := by
  obtain ⟨l, u, r, b⟩ := e
  obtain ⟨l', u', r', b'⟩ := f
  have hl := h .left
  have hu := h .up
  have hr := h .right
  have hb := h .down
  simp only [BoostEntry.share] at hl hu hr hb
  subst hl hu hr hb
  rfl

theorem BoostEntry.eq_empty_iff : e = BoostEntry.empty ↔ ∀ d, e.share d = none :=
  ⟨fun h d => by rw [h, BoostEntry.share_empty],
    fun h => BoostEntry.ext_share fun d => by rw [h d, BoostEntry.share_empty]⟩

@[simp] theorem BoostEntry.orDeleted_bind_share : e.orDeleted.bind (fun f => f.share d) = e.share d := by
  unfold BoostEntry.orDeleted
  split
  · next h => rw [h, BoostEntry.share_empty]; rfl
  · rfl

theorem BoostEntry.orDeleted_ne_empty : e.orDeleted ≠ some BoostEntry.empty := by
  unfold BoostEntry.orDeleted
  split
  · simp
  · next h => exact fun heq => h (Option.some.inj heq)

theorem BoostEntry.orDeleted_isSome : e.orDeleted.isSome = true ↔ e ≠ BoostEntry.empty := by
  unfold BoostEntry.orDeleted
  split <;> simp_all

end Entries

/-- The share of the boost that channel `m` holds in direction `d`, if it holds one (R133). -/
def Table.boostShare (t : Table BoostEntry) (m : Nat) (d : Direction) : Option Nat :=
  (Table.fetch t m).bind fun e => e.share d

/-! ## Removing the boosts aimed at a channel (R136) -/

/-- The table without the boost that channel `m` holds in direction `d`. -/
def Table.unboost (t : Table BoostEntry) (m : Nat) (d : Direction) : Table BoostEntry :=
  match Table.fetch t m with
  | none => t
  | some e => Table.assign t m (e.with d none).orDeleted

/-- The table without the boost aimed at channel `n` by its neighbour in direction `d`. -/
def Layout.unboostFrom (l : Layout) (n : Nat) (t : Table BoostEntry) (d : Direction) : Table BoostEntry :=
  match l.neighbour n d with
  | none => t
  | some m => Table.unboost t m d.opposite

/-- The table without the boosts aimed at channel `n`. -/
def Layout.unboosted (l : Layout) (n : Nat) (t : Table BoostEntry) : Table BoostEntry :=
  directions.foldl (l.unboostFrom n) t

theorem removeBoost_eq (m : Nat) (d : Direction) (s : State) :
    removeBoost m d s = s.setPlan { s.plan with boost := Table.unboost s.plan.boost m d } := by
  unfold removeBoost Table.unboost Plan.entryOf
  cases h : Table.fetch s.plan.boost m <;> rfl

theorem removeBoostFrom_eq (n : Nat) (s : State) (d : Direction) :
    removeBoostFrom n s d = s.setPlan { s.plan with boost := s.layout.unboostFrom n s.plan.boost d } := by
  unfold removeBoostFrom Layout.unboostFrom
  cases h : s.layout.neighbour n d
  · rfl
  · exact removeBoost_eq _ _ s

theorem removeBoostsAt_eq (n : Nat) (s : State) :
    removeBoostsAt n s = s.setPlan { s.plan with boost := s.layout.unboosted n s.plan.boost } := by
  have hfold : ∀ (ds : List Direction) (u : State),
      ds.foldl (removeBoostFrom n) u = u.setPlan { u.plan with boost := ds.foldl (u.layout.unboostFrom n) u.plan.boost } := by
    intro ds
    induction ds with
    | nil => exact fun _ => rfl
    | cons d ds ih => intro u; rw [List.foldl_cons, ih, removeBoostFrom_eq]; rfl
  exact hfold directions s

section Unboost
variable (t : Table BoostEntry) (l : Layout) (n m j : Nat) (d d' : Direction)

theorem Table.fetch_unboost : Table.fetch (Table.unboost t m d) j =
    if j = m then (Table.fetch t m).bind fun e => (e.with d none).orDeleted else Table.fetch t j := by
  unfold Table.unboost
  cases h : Table.fetch t m with
  | none => split <;> simp_all
  | some e => simp only [Table.fetch_assign]; rfl

theorem Table.boostShare_unboost : Table.boostShare (Table.unboost t m d) j d' =
    if j = m ∧ d' = d then none else Table.boostShare t j d' := by
  unfold Table.boostShare
  rw [Table.fetch_unboost]
  by_cases hj : j = m
  · subst hj
    cases Table.fetch t j <;> simp
  · simp [hj]

theorem Table.canonical_unboost {t : Table BoostEntry} (h : Table.canonical t = true) :
    Table.canonical (Table.unboost t m d) = true := by
  unfold Table.unboost
  split
  · exact h
  · exact Table.canonical_assign _ _ h

theorem Table.fetch_unboost_ne_empty {t : Table BoostEntry} (h : Table.fetch t j ≠ some BoostEntry.empty) :
    Table.fetch (Table.unboost t m d) j ≠ some BoostEntry.empty := by
  rw [Table.fetch_unboost]
  split
  · cases Table.fetch t m with
    | none => simp
    | some e => exact BoostEntry.orDeleted_ne_empty _
  · exact h

theorem Layout.fetch_unboostFrom : Table.fetch (l.unboostFrom n t d) j =
    if l.neighbour n d = some j then (Table.fetch t j).bind fun e => (e.with d.opposite none).orDeleted
    else Table.fetch t j := by
  unfold Layout.unboostFrom
  cases h : l.neighbour n d with
  | none => simp
  | some m =>
    simp only [Table.fetch_unboost, Option.some.injEq]
    by_cases hj : j = m
    · subst hj; simp
    · simp [hj, Ne.symm hj]

/-- Removing over some directions leaves an entry that is a neighbour in none of them. -/
theorem Layout.fetch_unboostFrom_foldl_of_not {ds : List Direction} (h : ∀ d ∈ ds, l.neighbour n d ≠ some j) :
    Table.fetch (ds.foldl (l.unboostFrom n) t) j = Table.fetch t j := by
  induction ds generalizing t with
  | nil => rfl
  | cons d ds ih =>
    rw [List.foldl_cons, ih _ fun d' hd' => h d' (List.mem_cons_of_mem _ hd'), Layout.fetch_unboostFrom,
      if_neg (h d List.mem_cons_self)]

theorem directions_nodup : directions.Nodup := by decide

variable {l n m j d}

theorem Layout.fetch_unboosted_of_not (h : ∀ d, l.neighbour n d ≠ some j) :
    Table.fetch (l.unboosted n t) j = Table.fetch t j := l.fetch_unboostFrom_foldl_of_not t n j fun d _ => h d

/-- The neighbour in direction `d` loses the boost that points back, and its entry with its last boost. -/
theorem Layout.fetch_unboosted_of_neighbour (h : l.neighbour n d = some m) :
    Table.fetch (l.unboosted n t) m = (Table.fetch t m).bind fun e => (e.with d.opposite none).orDeleted := by
  have hother : ∀ d', d' ≠ d → l.neighbour n d' ≠ some m := fun d' hne h' => hne (neighbour_direction_unique h' h)
  obtain ⟨before, after, hsplit⟩ := List.append_of_mem (mem_directions d)
  have hnodup := directions_nodup
  rw [hsplit, List.nodup_middle, List.nodup_cons, List.mem_append, not_or] at hnodup
  obtain ⟨⟨hbefore, hafter⟩, -⟩ := hnodup
  have hskip : ∀ {ds : List Direction} (u : Table BoostEntry), d ∉ ds →
      Table.fetch (ds.foldl (l.unboostFrom n) u) m = Table.fetch u m := fun u hd =>
    l.fetch_unboostFrom_foldl_of_not u n m fun d' hd' => hother d' fun heq => hd (heq ▸ hd')
  unfold Layout.unboosted
  rw [hsplit, List.foldl_append, List.foldl_cons, hskip _ hafter, Layout.fetch_unboostFrom, if_pos h, hskip _ hbefore]

theorem Layout.boostShare_unboosted : Table.boostShare (l.unboosted n t) j d' =
    if l.neighbour n d'.opposite = some j then none else Table.boostShare t j d' := by
  unfold Table.boostShare
  by_cases h : ∃ d, l.neighbour n d = some j
  · obtain ⟨d, hd⟩ := h
    rw [Layout.fetch_unboosted_of_neighbour t hd]
    by_cases hback : d' = d.opposite
    · subst hback
      rw [Direction.opposite_opposite, if_pos hd]
      cases Table.fetch t j <;> simp
    · have hne : l.neighbour n d'.opposite ≠ some j := fun h' => hback (by
        rw [← neighbour_direction_unique h' hd, Direction.opposite_opposite])
      rw [if_neg hne]
      cases Table.fetch t j <;> simp [hback]
  · rw [Layout.fetch_unboosted_of_not t fun d hd => h ⟨d, hd⟩, if_neg fun h' => h ⟨_, h'⟩]

variable {t}

theorem Layout.unboosted_induct {P : Table BoostEntry → Prop} (hstep : ∀ t m d, P t → P (Table.unboost t m d)) (h : P t) :
    P (l.unboosted n t) := by
  have hfold : ∀ (ds : List Direction) (u : Table BoostEntry), P u → P (ds.foldl (l.unboostFrom n) u) := by
    intro ds
    induction ds with
    | nil => exact fun _ h => h
    | cons d ds ih =>
      intro u hu
      refine ih _ ?_
      unfold Layout.unboostFrom
      split
      · exact hu
      · exact hstep _ _ _ hu
  exact hfold _ _ h

theorem Layout.canonical_unboosted (h : Table.canonical t = true) : Table.canonical (l.unboosted n t) = true :=
  Layout.unboosted_induct (P := fun t => Table.canonical t = true) (fun _ m d => Table.canonical_unboost m d) h

theorem Layout.fetch_unboosted_ne_empty (h : Table.fetch t j ≠ some BoostEntry.empty) :
    Table.fetch (l.unboosted n t) j ≠ some BoostEntry.empty :=
  Layout.unboosted_induct (P := fun t => Table.fetch t j ≠ some BoostEntry.empty)
    (fun _ m d => Table.fetch_unboost_ne_empty m j d) h

/-- In canonical tables, one that lists no key the other does not is no longer. -/
theorem Table.length_le_of_listed {α : Type} {t u : Table α} (ht : Table.canonical t = true)
    (h : ∀ k, (Table.fetch t k).isSome = true → (Table.fetch u k).isSome = true) : t.length ≤ u.length := by
  have hkeys : (Table.keys t).length ≤ (Table.keys u).length :=
    ((Table.keys_nodup ht).subperm fun k hk => (Table.mem_keys u k).mpr (h k ((Table.mem_keys t k).mp hk))).length_le
  simpa [Table.keys] using hkeys

theorem Layout.length_unboosted_le (h : Table.canonical t = true) : (l.unboosted n t).length ≤ t.length := by
  refine Table.length_le_of_listed (Layout.canonical_unboosted h) fun k hk => ?_
  by_cases hn : ∃ d, l.neighbour n d = some k
  · obtain ⟨d, hd⟩ := hn
    rw [Layout.fetch_unboosted_of_neighbour t hd] at hk
    cases hf : Table.fetch t k with
    | none => rw [hf] at hk; exact absurd hk (by simp)
    | some e => rfl
  · rwa [Layout.fetch_unboosted_of_not t fun d hd => hn ⟨d, hd⟩] at hk

end Unboost

/-! ## Admission (R144) -/

section Admission
variable {t : Table BoostEntry} {new : Nat} {cs : List (Direction × Nat)}

theorem admission_sublist : (admission t new cs).1.Sublist cs := by
  induction cs generalizing new with
  | nil => exact List.Sublist.slnil
  | cons c cs ih =>
    obtain ⟨d, m⟩ := c
    unfold admission
    split
    · exact ih.cons_cons _
    · split
      · exact ih.cons_cons _
      · exact ih.cons _

/-- Every candidate is admitted or refused. -/
theorem admission_length : (admission t new cs).1.length + (admission t new cs).2 = cs.length := by
  induction cs generalizing new with
  | nil => rfl
  | cons c cs ih =>
    obtain ⟨d, m⟩ := c
    have hsame := ih (new := new)
    have hmore := ih (new := new + 1)
    unfold admission
    split
    · simp only [List.length_cons]; omega
    · split
      · simp only [List.length_cons]; omega
      · simp only [List.length_cons]; omega

/-- Whether a candidate would need a new entry in the table. -/
def Table.unlisted (t : Table BoostEntry) (c : Direction × Nat) : Bool := !(Table.fetch t c.2).isSome

/-- The new entries of the admitted candidates fit into the table. -/
theorem admission_fits (h : t.length + new ≤ Config.boostCapacity) :
    t.length + new + ((admission t new cs).1.filter (Table.unlisted t)).length ≤ Config.boostCapacity := by
  induction cs generalizing new with
  | nil => exact h
  | cons c cs ih =>
    obtain ⟨d, m⟩ := c
    unfold admission
    split
    · next hlisted => simpa [Table.unlisted, hlisted] using ih h
    · next hlisted =>
      split
      · next hroom =>
        have hmore := ih (new := new + 1) (by omega)
        simp only [List.filter_cons, Table.unlisted, hlisted, Bool.not_false, if_true, List.length_cons]
        omega
      · exact ih h

/-- A candidate is admitted when it is listed, or when there is room past the unlisted candidates before it: once one of
those is refused there is no room for any later one. -/
theorem mem_admission_iff {before after : List (Direction × Nat)} {c : Direction × Nat} (hnodup : (before ++ c :: after).Nodup) :
    c ∈ (admission t new (before ++ c :: after)).1 ↔
      (Table.fetch t c.2).isSome = true ∨
        t.length + (new + (before.filter (Table.unlisted t)).length) < Config.boostCapacity := by
  induction before generalizing new with
  | nil =>
    obtain ⟨d, m⟩ := c
    obtain ⟨hout, -⟩ := List.nodup_cons.mp hnodup
    have habsent : ∀ k, (d, m) ∉ (admission t k after).1 := fun k hmem => hout (admission_sublist.subset hmem)
    rw [List.nil_append]
    unfold admission
    split
    · next hlisted => simp [hlisted]
    · next hlisted =>
      split
      · next hroom => simp [hroom]
      · next hroom => simp [hroom, hlisted, habsent]
  | cons b before ih =>
    obtain ⟨d, m⟩ := b
    obtain ⟨hout, hnodup⟩ := List.nodup_cons.mp hnodup
    have hne : c ≠ (d, m) := fun heq => hout (heq ▸ List.mem_append_right _ List.mem_cons_self)
    rw [List.cons_append]
    unfold admission
    split
    · next hlisted =>
      simp only [List.mem_cons, hne, false_or, ih hnodup, List.filter_cons, Table.unlisted, hlisted, Bool.not_true,
        Bool.false_eq_true, if_false]
    · next hlisted =>
      split
      · simp only [List.mem_cons, hne, false_or, ih hnodup, List.filter_cons, Table.unlisted, hlisted, Bool.not_false,
          if_true, List.length_cons]
        exact or_congr_right (by omega)
      · simp only [ih hnodup, List.filter_cons, Table.unlisted, hlisted, Bool.not_false, if_true, List.length_cons]
        exact or_congr_right (by omega)

end Admission

/-! ## Placing boosts (R145) -/

/-- The table with a boost of `share` at the donor `c.2` that points back to the lost channel, which lies opposite to
`c.1`. -/
def Table.boostBack (share : Nat) (t : Table BoostEntry) (c : Direction × Nat) : Table BoostEntry :=
  Table.store t c.2 (((Table.fetch t c.2).getD BoostEntry.empty).with c.1.opposite (some share))

section Boost
variable {share : Nat} {t u : Table BoostEntry} {cs : List (Direction × Nat)}

theorem addBoost_foldl_eq (share : Nat) (cs : List (Direction × Nat)) (s : State) :
    cs.foldl (addBoost share) s = s.setPlan { s.plan with boost := cs.foldl (Table.boostBack share) s.plan.boost } := by
  induction cs generalizing s with
  | nil => rfl
  | cons c cs ih => rw [List.foldl_cons, ih]; rfl

theorem Table.boostShare_boostBack (c : Direction × Nat) (m : Nat) (d : Direction) :
    Table.boostShare (Table.boostBack share t c) m d =
      if c = (d.opposite, m) then some share else Table.boostShare t m d := by
  obtain ⟨d', m'⟩ := c
  unfold Table.boostShare Table.boostBack
  by_cases hm : m = m'
  · subst hm
    by_cases hd : d = d'.opposite
    · subst hd; simp
    · have hne : d' ≠ d.opposite := fun h => hd (by rw [h, Direction.opposite_opposite])
      simp only [Table.fetch_store_same, Option.bind_some, BoostEntry.share_with, hd, if_false, Prod.mk.injEq, hne,
        false_and]
      cases Table.fetch t m <;> simp
  · rw [Table.fetch_store_other _ _ hm, if_neg (by simp [Ne.symm hm])]

theorem Table.boostShare_boostBack_foldl (m : Nat) (d : Direction) :
    Table.boostShare (cs.foldl (Table.boostBack share) t) m d =
      if (d.opposite, m) ∈ cs then some share else Table.boostShare t m d := by
  induction cs generalizing t with
  | nil => simp
  | cons c cs ih =>
    rw [List.foldl_cons, ih, Table.boostShare_boostBack]
    by_cases hmem : (d.opposite, m) ∈ cs
    · simp [hmem]
    · by_cases hc : c = (d.opposite, m)
      · simp [hc]
      · simp [hmem, hc, Ne.symm hc]

theorem Table.canonical_boostBack_foldl (h : Table.canonical t = true) :
    Table.canonical (cs.foldl (Table.boostBack share) t) = true := by
  induction cs generalizing t with
  | nil => exact h
  | cons c cs ih => exact ih (Table.canonical_store _ _ h)

/-- Only donors' entries change. -/
theorem Table.fetch_boostBack_foldl_of_not {m : Nat} (h : ∀ c ∈ cs, c.2 ≠ m) :
    Table.fetch (cs.foldl (Table.boostBack share) t) m = Table.fetch t m := by
  induction cs generalizing t with
  | nil => rfl
  | cons c cs ih =>
    rw [List.foldl_cons, ih fun c' hc' => h c' (List.mem_cons_of_mem _ hc'), Table.boostBack,
      Table.fetch_store_other _ _ (h c List.mem_cons_self).symm]

theorem Table.fetch_boostBack_foldl_ne_empty {m : Nat} (h : Table.fetch t m ≠ some BoostEntry.empty) :
    Table.fetch (cs.foldl (Table.boostBack share) t) m ≠ some BoostEntry.empty := by
  induction cs generalizing t with
  | nil => exact h
  | cons c cs ih =>
    refine ih fun heq => ?_
    unfold Table.boostBack at heq
    by_cases hm : m = c.2
    · subst hm
      rw [Table.fetch_store_same] at heq
      have hnone := (BoostEntry.eq_empty_iff _).mp (Option.some.inj heq) c.1.opposite
      simp at hnone
    · rw [Table.fetch_store_other _ _ hm] at heq
      exact h heq

/-- The table grows by at most the donors that it did not list. -/
theorem Table.length_boostBack_foldl_le (hc : Table.canonical u = true)
    (hlisted : ∀ k, (Table.fetch t k).isSome = true → (Table.fetch u k).isSome = true) :
    (cs.foldl (Table.boostBack share) u).length ≤ u.length + (cs.filter (Table.unlisted t)).length := by
  induction cs generalizing u with
  | nil => exact le_refl _
  | cons c cs ih =>
    have hstored : ∀ k, (Table.fetch t k).isSome = true → (Table.fetch (Table.boostBack share u c) k).isSome = true := by
      intro k hk
      unfold Table.boostBack
      by_cases hkc : k = c.2
      · subst hkc; simp
      · rw [Table.fetch_store_other _ _ hkc]; exact hlisted k hk
    have hrest := ih (Table.canonical_store c.2 _ hc) hstored
    rw [List.foldl_cons, List.filter_cons]
    by_cases hin : (Table.fetch t c.2).isSome = true
    · obtain ⟨e, he⟩ := Option.isSome_iff_exists.mp (hlisted _ hin)
      have hsame := Table.length_store_of_some (((Table.fetch u c.2).getD BoostEntry.empty).with c.1.opposite (some share)) he hc
      simp only [Table.unlisted, hin, Bool.not_true, Bool.false_eq_true, if_false] at hrest ⊢
      exact hrest.trans_eq (congrArg (· + _) hsame)
    · have hgrow := Table.length_store_le u c.2 (((Table.fetch u c.2).getD BoostEntry.empty).with c.1.opposite (some share))
      simp only [Table.unlisted, hin, Bool.not_false, if_true, List.length_cons] at hrest ⊢
      unfold Table.boostBack at hrest ⊢
      omega

end Boost

/-! ## The recompute of a channel -/

/-- `n` occurrences counted in turn (R199). -/
def EventUnit.countedTimes (u : EventUnit) (c : Counter) : Nat → EventUnit
  | 0 => u
  | n + 1 => (u.counted c).countedTimes c n

theorem countTimes_eq (c : Counter) (n : Nat) (s : State) : countTimes c n s = s.setEvents (s.events.countedTimes c n) := by
  induction n generalizing s with
  | zero => rfl
  | succ n ih => exact ih (count c s)

/-- The donors of LOST channel `n`, once the boosts aimed at it are gone, and how many candidates are refused (R144). -/
def State.donors (s : State) (n : Nat) : List (Direction × Nat) × Nat :=
  admission (s.layout.unboosted n s.plan.boost) 0 (s.candidates n)

/-- The Boost Table that the recompute of channel `n` leaves. -/
def State.boostAfter (s : State) (n : Nat) : Table BoostEntry :=
  if s.params.f = 0 ∨ shareOf s.params.f (s.donors n).1.length = 0 then s.layout.unboosted n s.plan.boost
  else (s.donors n).1.foldl (Table.boostBack (shareOf s.params.f (s.donors n).1.length)) (s.layout.unboosted n s.plan.boost)

/-- The shortfall marks that the recompute of channel `n` leaves. -/
def State.shortfallAfter (s : State) (n : Nat) : IndexSet :=
  if s.params.f ≠ 0 ∧ (s.donors n).2 ≠ 0 then IndexSet.add s.plan.shortfall n else Table.discard s.plan.shortfall n

/-- The Event Unit after a recompute that admitted `k` donors and refused `refused` for room. -/
def EventUnit.donorsTaken (u : EventUnit) (k refused : Nat) : EventUnit :=
  let u := if refused = 0 then u else (u.countedTimes .boostDrops refused).raised .boostFull
  if k = 0 then u.raised .uncovered else u

/-- The Event Unit that the recompute of channel `n` leaves. -/
def State.eventsAfter (s : State) (n : Nat) : EventUnit :=
  if s.params.f = 0 then s.events else s.events.donorsTaken (s.donors n).1.length (s.donors n).2

theorem refuseBoosts_eq (k : Nat) (s : State) : refuseBoosts k s =
    s.setEvents (if k = 0 then s.events else (s.events.countedTimes .boostDrops k).raised .boostFull) := by
  unfold refuseBoosts
  split
  · rfl
  · rw [countTimes_eq]; rfl

theorem placeBoosts_eq (cs : List (Direction × Nat)) (s : State) : placeBoosts cs s =
    (s.setPlan { s.plan with
      boost := if shareOf s.params.f cs.length = 0 then s.plan.boost
        else cs.foldl (Table.boostBack (shareOf s.params.f cs.length)) s.plan.boost }).setEvents
      (if cs.length = 0 then s.events.raised .uncovered else s.events) := by
  unfold placeBoosts
  split
  · next hnone =>
    have hshare : shareOf s.params.f 0 = 0 := by simp [shareOf]
    rw [hnone, if_pos hshare]; rfl
  · split
    · rfl
    · rw [addBoost_foldl_eq]; rfl

/-- A recompute replaces the Boost Table and the shortfall marks, and raises events. -/
theorem recompute_eq (n : Nat) (s : State) : recompute n s =
    (s.setPlan { s.plan with boost := s.boostAfter n, shortfall := s.shortfallAfter n }).setEvents (s.eventsAfter n) := by
  have hcandidates : ∀ t, (s.setPlan { s.plan with boost := t }).candidates n = s.candidates n := fun _ => rfl
  unfold recompute State.boostAfter State.shortfallAfter State.eventsAfter
  rw [removeBoostsAt_eq]
  dsimp only
  by_cases hf : s.params.f = 0
  · simp only [State.setPlan_params, hf, if_true, true_or, ne_eq, not_true_eq_false, false_and, if_false]
    rfl
  · simp only [State.setPlan_params, hf, if_false, false_or, ne_eq, not_false_eq_true, true_and]
    unfold assignDonors
    dsimp only
    rw [hcandidates, refuseBoosts_eq, placeBoosts_eq]
    unfold State.donors EventUnit.donorsTaken setShortfall
    simp only [decide_eq_true_eq]
    rfl

@[simp] theorem recompute_select (n : Nat) (s : State) : (recompute n s).plan.select = s.plan.select := by
  rw [recompute_eq]; rfl

@[simp] theorem recompute_edited (n : Nat) (s : State) : (recompute n s).plan.edited = s.plan.edited := by
  rw [recompute_eq]; rfl

@[simp] theorem recompute_deferred (n : Nat) (s : State) : (recompute n s).plan.deferred = s.plan.deferred := by
  rw [recompute_eq]; rfl

@[simp] theorem recompute_boost (n : Nat) (s : State) : (recompute n s).plan.boost = s.boostAfter n := by
  rw [recompute_eq]; rfl

@[simp] theorem recompute_shortfall (n : Nat) (s : State) : (recompute n s).plan.shortfall = s.shortfallAfter n := by
  rw [recompute_eq]; rfl

@[simp] theorem recompute_events (n : Nat) (s : State) : (recompute n s).events = s.eventsAfter n := by
  rw [recompute_eq]; rfl

section Candidates
variable {s : State} {n m : Nat} {d : Direction}

theorem mem_candidates : (d, m) ∈ s.candidates n ↔ s.layout.neighbour n d = some m ∧ s.canDonate m = true := by
  unfold State.candidates
  rw [List.mem_filterMap]
  constructor
  · rintro ⟨d', -, h⟩
    split at h
    · exact absurd h (by simp)
    · next m' hm =>
      split at h
      · next hdonate =>
        obtain ⟨rfl, rfl⟩ := Prod.mk.inj (Option.some.inj h)
        exact ⟨hm, hdonate⟩
      · exact absurd h (by simp)
  · rintro ⟨hm, hdonate⟩
    exact ⟨d, mem_directions d, by rw [hm]; simp [hdonate]⟩

theorem mem_donors_neighbour (h : (d, m) ∈ (s.donors n).1) : s.layout.neighbour n d = some m :=
  (mem_candidates.mp (admission_sublist.subset h)).1

/-- A donor is not LOST. -/
theorem mem_donors_select (h : (d, m) ∈ (s.donors n).1) : s.plan.selectOf m ≠ .off := by
  have hdonate := (mem_candidates.mp (admission_sublist.subset h)).2
  unfold State.canDonate State.isLost at hdonate
  simp only [Bool.and_eq_true, Bool.not_eq_true', decide_eq_false_iff_not] at hdonate
  obtain ⟨⟨-, hselect⟩, -⟩ := hdonate
  exact hselect

variable (s n)

/-- What the recompute of channel `n` leaves of each boost: those aimed at `n` are the donors', all others stay. -/
theorem boostShare_boostAfter (m : Nat) (d : Direction) : Table.boostShare (s.boostAfter n) m d =
    if s.layout.neighbour n d.opposite = some m then
      if (d.opposite, m) ∈ (s.donors n).1 ∧ 1 ≤ shareOf s.params.f (s.donors n).1.length then
        some (shareOf s.params.f (s.donors n).1.length) else none
    else Table.boostShare s.plan.boost m d := by
  have hzero : s.params.f = 0 ∨ shareOf s.params.f (s.donors n).1.length = 0 →
      ¬ 1 ≤ shareOf s.params.f (s.donors n).1.length := by
    rintro (hf | hshare)
    · rw [hf]; simp [shareOf]
    · omega
  unfold State.boostAfter
  split
  · next hnone =>
    rw [Layout.boostShare_unboosted]
    simp [hzero hnone]
  · next hsome =>
    have hpos : 1 ≤ shareOf s.params.f (s.donors n).1.length := by omega
    rw [Table.boostShare_boostBack_foldl, Layout.boostShare_unboosted]
    by_cases hmem : (d.opposite, m) ∈ (s.donors n).1
    · simp [hmem, hpos, mem_donors_neighbour hmem]
    · simp [hmem]

theorem canonical_boostAfter (h : Table.canonical s.plan.boost = true) : Table.canonical (s.boostAfter n) = true := by
  unfold State.boostAfter
  split
  · exact Layout.canonical_unboosted h
  · exact Table.canonical_boostBack_foldl (Layout.canonical_unboosted h)

theorem fetch_boostAfter_ne_empty (h : Table.fetch s.plan.boost m ≠ some BoostEntry.empty) :
    Table.fetch (s.boostAfter n) m ≠ some BoostEntry.empty := by
  unfold State.boostAfter
  split
  · exact Layout.fetch_unboosted_ne_empty h
  · exact Table.fetch_boostBack_foldl_ne_empty (Layout.fetch_unboosted_ne_empty h)

/-- The recompute keeps the capacity of the Boost Table (R133, R144). -/
theorem length_boostAfter_le (h : Table.canonical s.plan.boost = true) (hlen : s.plan.boost.length ≤ Config.boostCapacity) :
    (s.boostAfter n).length ≤ Config.boostCapacity := by
  have hshort := (Layout.length_unboosted_le (l := s.layout) (n := n) h).trans hlen
  unfold State.boostAfter
  split
  · exact hshort
  · refine (Table.length_boostBack_foldl_le (t := s.layout.unboosted n s.plan.boost) (Layout.canonical_unboosted h)
      fun _ hk => hk).trans ?_
    simpa [State.donors] using admission_fits (new := 0) (cs := s.candidates n) (by simpa using hshort)

/-- A channel whose select is OFF, and holds no entry, gets none. -/
theorem fetch_boostAfter_of_lost (hlost : s.plan.selectOf m = .off) (hnone : Table.fetch s.plan.boost m = none) :
    Table.fetch (s.boostAfter n) m = none := by
  have hunboosted : Table.fetch (s.layout.unboosted n s.plan.boost) m = none := by
    by_cases hn : ∃ d, s.layout.neighbour n d = some m
    · obtain ⟨d, hd⟩ := hn
      rw [Layout.fetch_unboosted_of_neighbour _ hd, hnone]; rfl
    · rw [Layout.fetch_unboosted_of_not _ fun d hd => hn ⟨d, hd⟩, hnone]
  unfold State.boostAfter
  split
  · exact hunboosted
  · rw [Table.fetch_boostBack_foldl_of_not, hunboosted]
    rintro ⟨d, m'⟩ hmem rfl
    exact mem_donors_select hmem hlost

end Candidates

/-! ## Shares stay within 256 -/

/-- The part of `SharesBounded` about one Boost Table. -/
def SharesFit (l : Layout) (t : Table BoostEntry) : Prop :=
  (∀ n, l.sharesAt t n ≤ 256) ∧ ∀ m d share, Table.boostShare t m d = some share → 1 ≤ share ∧ share ≤ 256

/-- The share of the boost that the neighbour of channel `n` in direction `d` aims at it. -/
def Layout.aimedShare (l : Layout) (t : Table BoostEntry) (n : Nat) (d : Direction) : Nat :=
  ((l.neighbour n d).bind fun m => Table.boostShare t m d.opposite).getD 0

theorem Layout.sharesAt_eq (l : Layout) (t : Table BoostEntry) (n : Nat) :
    l.sharesAt t n = (directions.map (l.aimedShare t n)).sum := by
  unfold Layout.sharesAt
  congr 2
  funext d
  unfold Layout.aimedShare
  cases l.neighbour n d <;> rfl

theorem sharesFit_nil (l : Layout) : SharesFit l [] := by
  refine ⟨fun n => ?_, fun m d share h => absurd h (by simp [Table.boostShare])⟩
  have hzero : ∀ d, l.aimedShare [] n d = 0 := fun d => by
    unfold Layout.aimedShare Table.boostShare
    cases l.neighbour n d <;> rfl
  rw [Layout.sharesAt_eq, funext hzero]
  decide

/-- Taking boosts away keeps the shares within 256. -/
theorem SharesFit.of_fewer {l : Layout} {t u : Table BoostEntry} (h : SharesFit l t)
    (hfewer : ∀ m d, Table.boostShare u m d = none ∨ Table.boostShare u m d = Table.boostShare t m d) : SharesFit l u := by
  obtain ⟨hsum, hrange⟩ := h
  constructor
  · intro n
    refine le_trans ?_ (hsum n)
    rw [Layout.sharesAt_eq, Layout.sharesAt_eq]
    refine List.sum_le_sum fun d _ => ?_
    unfold Layout.aimedShare
    cases l.neighbour n d with
    | none => exact le_refl _
    | some m =>
      obtain hnone | hsame := hfewer m d.opposite
      · simp [hnone]
      · simp [hsame]
  · intro m d share hshare
    obtain hnone | hsame := hfewer m d
    · rw [hnone] at hshare; exact absurd hshare (by simp)
    · exact hrange m d share (hsame ▸ hshare)

/-- `k` shares at fraction F add up to at most 256 (R145). -/
theorem mul_shareOf_le {f : Nat} (k : Nat) (hf : f ≤ 100) : k * shareOf f k ≤ 256 := by
  have hdiv : f * 256 / (100 * k) * (100 * k) ≤ f * 256 := Nat.div_mul_le_self _ _
  have hassoc : f * 256 / (100 * k) * (100 * k) = 100 * (k * (f * 256 / (100 * k))) := by ring
  unfold shareOf
  omega

theorem sum_map_ite_le {α : Type} [DecidableEq α] {l a : List α} (v : Nat) (h : l.Nodup) :
    (l.map fun x => if x ∈ a then v else 0).sum ≤ a.length * v := by
  have hsum : (l.map fun x => if x ∈ a then v else 0).sum = (l.filter (· ∈ a)).length * v := by
    induction l with
    | nil => simp
    | cons x l ih =>
      rw [List.map_cons, List.sum_cons, ih (List.nodup_cons.mp h).2, List.filter_cons]
      by_cases hx : x ∈ a
      · simp only [hx, if_true, decide_true, List.length_cons]; ring
      · simp [hx]
  rw [hsum]
  exact Nat.mul_le_mul_right v ((h.filter _).subperm fun x hx => by simpa using (List.mem_filter.mp hx).2).length_le

/-- A recompute keeps the shares within 256 while F is at most 100 (R145). -/
theorem SharesFit.boostAfter {s : State} (h : SharesFit s.layout s.plan.boost) (hf : s.params.f ≤ 100) (n : Nat) :
    SharesFit s.layout (s.boostAfter n) := by
  obtain ⟨hsum, hrange⟩ := h
  have hshares := mul_shareOf_le (s.donors n).1.length hf
  constructor
  · intro j
    rw [Layout.sharesAt_eq]
    by_cases hj : j = n
    · subst hj
      calc (directions.map (s.layout.aimedShare (s.boostAfter j) j)).sum
          ≤ (directions.map fun d => if d ∈ (s.donors j).1.map Prod.fst then
              shareOf s.params.f (s.donors j).1.length else 0).sum := by
            refine List.sum_le_sum fun d _ => ?_
            unfold Layout.aimedShare
            cases hm : s.layout.neighbour j d with
            | none => exact Nat.zero_le _
            | some m =>
              simp only [Option.bind_some, boostShare_boostAfter, Direction.opposite_opposite, hm, if_true]
              split
              · next hdonor => simp [List.mem_map_of_mem (f := Prod.fst) hdonor.1]
              · exact Nat.zero_le _
        _ ≤ ((s.donors j).1.map Prod.fst).length * shareOf s.params.f (s.donors j).1.length :=
            sum_map_ite_le _ directions_nodup
        _ ≤ 256 := by rw [List.length_map]; exact hshares
    · refine le_trans (le_of_eq ?_) (hsum j)
      rw [Layout.sharesAt_eq]
      congr 2
      funext d
      unfold Layout.aimedShare
      cases hm : s.layout.neighbour j d with
      | none => rfl
      | some m =>
        have hother : s.layout.neighbour n d ≠ some m := fun h => hj (neighbour_channel_unique hm h)
        simp [boostShare_boostAfter, hother]
  · intro m d share hshare
    rw [boostShare_boostAfter] at hshare
    split at hshare
    · split at hshare
      · next hdonor =>
        obtain ⟨hmem, hpos⟩ := hdonor
        obtain rfl := Option.some.inj hshare
        have hk : 1 ≤ (s.donors n).1.length := List.length_pos_of_mem hmem
        exact ⟨hpos, (Nat.le_mul_of_pos_left _ hk).trans hshares⟩
      · exact absurd hshare (by simp)
    · exact hrange m d share hshare

end Sys2Proof.Machine
end


section
/-! PROOFS. A recompute round, move by move (R138 to R142): what holds after it, the pending selects it leaves, and the
edited marks it sets. -/

namespace Sys2Proof.Machine

/-! ## The moves of a round -/

/-- Channel `n` becomes LOST in phase 1: its select is OFF, LOST is raised and its entry is deleted (R140). -/
def loseChannel (n : Nat) (s : State) : State := setPendingEntry n none (raise .lost (setPendingSelect n .off s))

/-- Channel `n` is LOST no longer: select `x`, no boost aimed at it, no shortfall mark (R140). -/
def regainChannel (n : Nat) (x : Select) (s : State) : State :=
  setShortfall n false (removeBoostsAt n (setPendingSelect n x s))

/-- A round up to its edited marks. -/
def roundEnd (a b : List Nat) (s : State) : State :=
  phaseThree ((a.foldl deriveOne (s, IndexSet.addAll [] b)).2.keys.foldl recomputeOrDefer
    (a.foldl deriveOne (s, IndexSet.addAll [] b)).1)

theorem takeRound_eq (a b : List Nat) (s : State) : takeRound a b s = markEdited s.plan (roundEnd a b s) := rfl

section DeriveOne
variable {acc : State × IndexSet} {n : Nat}

theorem deriveOne_of_frozen (h : acc.1.selectFrozen n (acc.1.derivedSelect n) = true) :
    deriveOne acc n = (setDeferred n acc.1, acc.2) := by
  unfold deriveOne
  dsimp only
  rw [if_pos h]

variable (hfree : acc.1.selectFrozen n (acc.1.derivedSelect n) = false)
include hfree

theorem deriveOne_of_same (h : acc.1.derivedSelect n = acc.1.plan.selectOf n) : deriveOne acc n = acc := by
  unfold deriveOne
  dsimp only
  rw [hfree, if_neg Bool.false_ne_true, if_pos h]

theorem deriveOne_of_lost (h : acc.1.derivedSelect n ≠ acc.1.plan.selectOf n) (hoff : acc.1.derivedSelect n = .off) :
    deriveOne acc n =
      (loseChannel n acc.1, IndexSet.addAll acc.2 (n :: (loseChannel n acc.1).lostNeighbours n)) := by
  unfold deriveOne
  dsimp only
  rw [hfree, if_neg Bool.false_ne_true, if_neg h, if_pos hoff]
  rfl

theorem deriveOne_of_regained (h : acc.1.derivedSelect n ≠ acc.1.plan.selectOf n) (hwas : acc.1.plan.selectOf n = .off) :
    deriveOne acc n =
      (regainChannel n (acc.1.derivedSelect n) acc.1,
        IndexSet.addAll acc.2 ((regainChannel n (acc.1.derivedSelect n) acc.1).lostNeighbours n)) := by
  unfold deriveOne
  dsimp only
  rw [hfree, if_neg Bool.false_ne_true, if_neg h, if_neg (fun hoff => h (hoff.trans hwas.symm)), if_pos hwas]
  rfl

theorem deriveOne_of_swapped (h : acc.1.derivedSelect n ≠ acc.1.plan.selectOf n) (hoff : acc.1.derivedSelect n ≠ .off)
    (hwas : acc.1.plan.selectOf n ≠ .off) :
    deriveOne acc n = (setPendingSelect n (acc.1.derivedSelect n) acc.1, acc.2) := by
  unfold deriveOne
  dsimp only
  rw [hfree, if_neg Bool.false_ne_true, if_neg h, if_neg hoff, if_neg hwas]

end DeriveOne

/-- What each move of a round must give for `P` to hold after the round. -/
structure RoundKeeps (P : State → Prop) : Prop where
  defer : ∀ n u, P u → P (setDeferred n u)
  recompute : ∀ n u, u.plan.selectOf n = .off → P u → P (recompute n u)
  lose : ∀ n u, P u → P (loseChannel n u)
  regain : ∀ n x u, x ≠ .off → P u → P (regainChannel n x u)
  swap : ∀ n x u, x ≠ .off → P u → P (setPendingSelect n x u)

namespace RoundKeeps

variable {P : State → Prop} (k : RoundKeeps P)
include k

theorem deriveOne {acc : State × IndexSet} (n : Nat) (h : P acc.1) : P (deriveOne acc n).1 := by
  by_cases hfrozen : acc.1.selectFrozen n (acc.1.derivedSelect n) = true
  · rw [deriveOne_of_frozen hfrozen]; exact k.defer n _ h
  · have hfree : acc.1.selectFrozen n (acc.1.derivedSelect n) = false := by simpa using hfrozen
    by_cases hsame : acc.1.derivedSelect n = acc.1.plan.selectOf n
    · rw [deriveOne_of_same hfree hsame]; exact h
    · by_cases hoff : acc.1.derivedSelect n = .off
      · rw [deriveOne_of_lost hfree hsame hoff]; exact k.lose n _ h
      · by_cases hwas : acc.1.plan.selectOf n = .off
        · rw [deriveOne_of_regained hfree hsame hwas]; exact k.regain n _ _ hoff h
        · rw [deriveOne_of_swapped hfree hsame hoff hwas]; exact k.swap n _ _ hoff h

theorem derive (l : List Nat) {acc : State × IndexSet} (h : P acc.1) : P (l.foldl Machine.deriveOne acc).1 := by
  induction l generalizing acc with
  | nil => exact h
  | cons n l ih => exact ih (k.deriveOne n h)

theorem recomputeOrDefer (s : State) (n : Nat) (h : P s) : P (recomputeOrDefer s n) := by
  unfold Machine.recomputeOrDefer
  split
  · exact h
  · next hlost =>
    split
    · exact k.defer n s h
    · exact k.recompute n s (by simpa [State.isLost] using hlost) h

theorem recomputes (l : List Nat) {s : State} (h : P s) : P (l.foldl Machine.recomputeOrDefer s) := by
  induction l generalizing s with
  | nil => exact h
  | cons n l ih => exact ih (k.recomputeOrDefer s n h)

theorem roundEnd (a b : List Nat) {s : State} (h : P s) : P (roundEnd a b s) :=
  k.recomputes _ (k.recomputes _ (k.derive a h))

end RoundKeeps

/-! ## Selects -/

section Selects
variable (n m : Nat) (x : Select) (s : State)

@[simp] theorem setPendingSelect_selectOf :
    (setPendingSelect n x s).plan.selectOf m = if m = n then x else s.plan.selectOf m := Table.value_hold _ _ _ _ _

@[simp] theorem setDeferred_select : (setDeferred n s).plan.select = s.plan.select := rfl

@[simp] theorem loseChannel_select : (loseChannel n s).plan.select = (setPendingSelect n .off s).plan.select := rfl

theorem regainChannel_eq : regainChannel n x s = s.setPlan { s.plan with
    select := Table.hold .a s.plan.select n x, boost := s.layout.unboosted n s.plan.boost,
    shortfall := Table.discard s.plan.shortfall n } := by
  unfold regainChannel
  rw [removeBoostsAt_eq]
  rfl

@[simp] theorem regainChannel_select : (regainChannel n x s).plan.select = (setPendingSelect n x s).plan.select := by
  rw [regainChannel_eq]; rfl

theorem selectOf_of_select {p q : Plan} (h : p.select = q.select) (j : Nat) : p.selectOf j = q.selectOf j := by
  unfold Plan.selectOf
  rw [h]

/-- What the moves of phases 2 and 3 leave of the selects: all of them. -/
theorem recomputeOrDefer_select : (recomputeOrDefer s n).plan.select = s.plan.select := by
  unfold recomputeOrDefer
  split
  · rfl
  · split
    · rfl
    · exact recompute_select n s

theorem recomputes_select (l : List Nat) : (l.foldl recomputeOrDefer s).plan.select = s.plan.select := by
  induction l generalizing s with
  | nil => rfl
  | cons n l ih => rw [List.foldl_cons, ih, recomputeOrDefer_select]

end Selects

section RoundSelects
variable {s t : State} {n : Nat}

/-- What a derived select rests on: the layout and the records. -/
theorem derivedSelect_congr (hlayout : t.layout = s.layout) (hmap : t.map = s.map) (n : Nat) :
    t.derivedSelect n = s.derivedSelect n := by
  unfold State.derivedSelect State.dieDead State.recordState
  rw [hlayout, hmap]

theorem slotHeld_of_none_held (h : s.capture.held = 0) (i : Fin 8) : s.slotHeld i = false := by
  simp [State.slotHeld, h]

/-- With no slot held nothing is frozen (R149). -/
theorem selectFrozen_of_none_held (h : s.capture.held = 0) (n : Nat) (x : Select) : s.selectFrozen n x = false := by
  have hslot := slotHeld_of_none_held h
  simp [State.selectFrozen, State.besideHeldSlot, State.onHeldSlot, hslot]

/-- The select of one channel after it is derived with no slot held. -/
theorem deriveOne_selectOf {acc : State × IndexSet} (hheld : acc.1.capture.held = 0) (n m : Nat) :
    (deriveOne acc n).1.plan.selectOf m = if m = n then acc.1.derivedSelect n else acc.1.plan.selectOf m := by
  have hfree := selectFrozen_of_none_held hheld n (acc.1.derivedSelect n)
  by_cases hsame : acc.1.derivedSelect n = acc.1.plan.selectOf n
  · rw [deriveOne_of_same hfree hsame, hsame]
    split
    · next h => rw [h]
    · rfl
  · by_cases hoff : acc.1.derivedSelect n = .off
    · rw [deriveOne_of_lost hfree hsame hoff, hoff]
      exact (selectOf_of_select (loseChannel_select _ _) m).trans (setPendingSelect_selectOf _ _ _ _)
    · by_cases hwas : acc.1.plan.selectOf n = .off
      · rw [deriveOne_of_regained hfree hsame hwas]
        exact (selectOf_of_select (regainChannel_select _ _ _) m).trans (setPendingSelect_selectOf _ _ _ _)
      · rw [deriveOne_of_swapped hfree hsame hoff hwas, setPendingSelect_selectOf]

/-- Deriving a channel leaves the selects of the others. -/
theorem deriveOne_selectOf_of_ne {acc : State × IndexSet} {n m : Nat} (h : m ≠ n) :
    (deriveOne acc n).1.plan.selectOf m = acc.1.plan.selectOf m := by
  have hstaged : ∀ x, (setPendingSelect n x acc.1).plan.selectOf m = acc.1.plan.selectOf m := fun x => by
    rw [setPendingSelect_selectOf, if_neg h]
  unfold deriveOne
  dsimp only
  split
  · rfl
  · split
    · rfl
    · split
      · exact hstaged .off
      · split
        · exact (selectOf_of_select (regainChannel_select _ _ _) m).trans (hstaged _)
        · exact hstaged _

theorem derive_selectOf_of_not_mem {l : List Nat} {acc : State × IndexSet} {m : Nat} (h : m ∉ l) :
    (l.foldl deriveOne acc).1.plan.selectOf m = acc.1.plan.selectOf m := by
  induction l generalizing acc with
  | nil => rfl
  | cons n l ih =>
    obtain ⟨hne, hrest⟩ := not_or.mp (mt List.mem_cons.mpr h)
    rw [List.foldl_cons, ih hrest, deriveOne_selectOf_of_ne hne]

theorem derive_selectOf {l : List Nat} {acc : State × IndexSet} (hheld : acc.1.capture.held = 0) (m : Nat) :
    (l.foldl deriveOne acc).1.plan.selectOf m = if m ∈ l then acc.1.derivedSelect m else acc.1.plan.selectOf m := by
  induction l generalizing acc with
  | nil => simp
  | cons n l ih =>
    have honly := (deriveOne_acts acc n).only
    rw [List.foldl_cons, ih (by rw [honly.capture]; exact hheld), derivedSelect_congr honly.layout honly.map,
      deriveOne_selectOf hheld]
    by_cases hl : m ∈ l
    · simp [hl]
    · by_cases hn : m = n
      · subst hn; simp [hl]
      · simp [hl, hn]

variable (a b : List Nat) (s)

theorem roundEnd_selectOf_eq_derived (m : Nat) :
    (roundEnd a b s).plan.selectOf m = (a.foldl deriveOne (s, IndexSet.addAll [] b)).1.plan.selectOf m := by
  unfold roundEnd phaseThree
  exact selectOf_of_select ((recomputes_select _ _).trans (recomputes_select _ _)) m

@[simp] theorem markEdited_selectOf (p : Plan) (m : Nat) : (markEdited p s).plan.selectOf m = s.plan.selectOf m := rfl

/-- With no slot held a round stages each channel of its re-derive set at its derived select, and no other (R140). -/
theorem takeRound_selectOf (hheld : s.capture.held = 0) (m : Nat) :
    (takeRound a b s).plan.selectOf m = if m ∈ a then s.derivedSelect m else s.plan.selectOf m := by
  rw [takeRound_eq, markEdited_selectOf, roundEnd_selectOf_eq_derived, derive_selectOf hheld]

/-- A round leaves the selects outside its re-derive set. -/
theorem takeRound_selectOf_of_not_mem {m : Nat} (h : m ∉ a) : (takeRound a b s).plan.selectOf m = s.plan.selectOf m := by
  rw [takeRound_eq, markEdited_selectOf, roundEnd_selectOf_eq_derived, derive_selectOf_of_not_mem h]

end RoundSelects

/-! ## Edited marks (R134) -/

section Edited
variable (a b : List Nat) (s : State)

theorem roundEnd_edited : (roundEnd a b s).plan.edited = s.plan.edited :=
  RoundKeeps.roundEnd (P := fun u => u.plan.edited = s.plan.edited)
    { defer := fun _ _ h => h
      recompute := fun n u _ h => (recompute_edited n u).trans h
      lose := fun _ _ h => h
      regain := fun n x u _ h => by rw [regainChannel_eq]; exact h
      swap := fun _ _ _ _ h => h } a b rfl

theorem mem_changedChannels {p q : Plan} {n : Nat} :
    n ∈ changedChannels p q ↔ p.selectOf n ≠ q.selectOf n ∨ p.entryOf n ≠ q.entryOf n := by
  unfold changedChannels
  rw [List.mem_filter, decide_eq_true_eq]
  refine ⟨fun h => h.2, fun h => ⟨?_, h⟩⟩
  simp only [List.mem_append, Table.mem_keys]
  by_contra hnone
  simp only [not_or, Bool.not_eq_true, Option.isSome_eq_false_iff, Option.isNone_iff_eq_none] at hnone
  obtain ⟨⟨⟨hp, hq⟩, hpe⟩, hqe⟩ := hnone
  unfold Plan.selectOf Plan.entryOf Table.value at h
  rw [hp, hq, hpe, hqe] at h
  exact h.elim (fun h => h rfl) fun h => h rfl

/-- A round marks edited each channel it leaves different, and keeps the marks there are. -/
theorem takeRound_has_edited (m : Nat) :
    IndexSet.has (takeRound a b s).plan.edited m = (IndexSet.has s.plan.edited m ||
      decide ((takeRound a b s).plan.selectOf m ≠ s.plan.selectOf m ∨
        (takeRound a b s).plan.entryOf m ≠ s.plan.entryOf m)) := by
  have hselect : (takeRound a b s).plan.selectOf m = (roundEnd a b s).plan.selectOf m := rfl
  have hentry : (takeRound a b s).plan.entryOf m = (roundEnd a b s).plan.entryOf m := rfl
  have hmark : (takeRound a b s).plan.edited =
      IndexSet.addAll (roundEnd a b s).plan.edited (changedChannels s.plan (roundEnd a b s).plan) := rfl
  rw [hmark, hselect, hentry, roundEnd_edited, IndexSet.has_addAll, Bool.or_comm]
  congr 1
  rw [decide_eq_decide, mem_changedChannels]
  exact or_congr ne_comm ne_comm

end Edited

end Sys2Proof.Machine
end


section
/-! PROOFS. What commands do to the Pending Plan, the live tables and the Transition Queue: the moves of `Replans`.  An
invariant of these that every move keeps is kept by every command. -/

namespace Sys2Proof.Machine

/-- The plan, the live tables, the Transition Queue and what rounds read of the settings are as they were. -/
structure SamePlan (s t : State) : Prop where
  plan : t.plan = s.plan
  layout : t.layout = s.layout
  params : t.params = s.params
  liveSelect : t.scan.liveSelect = s.scan.liveSelect
  liveBoost : t.scan.liveBoost = s.scan.liveBoost
  queue : t.map.queue = s.map.queue

/-- The moves commands make on the plan, the live tables and the Transition Queue. -/
inductive Replans : State → State → Prop where
  | same {s t : State} (h : SamePlan s t) : Replans s t
  | log (x : Transition) (s : State) : Replans s (appendTransition x s)
  | takeOldest (k : Nat) (s : State) : Replans s (s.setMap { s.map with queue := s.map.queue.drop k })
  | round (a b : List Nat) (s : State) : Replans s (takeRound a b s)
  | resolve (s : State) : Replans s (clearDeferred s)
  | copy (s : State) : Replans s (planCopy s)
  | cut (n : Nat) (s : State) : Replans s (cutChannel n s)
  | trans {s t u : State} (h : Replans s t) (k : Replans t u) : Replans s u

namespace Replans

variable {s t u : State}

theorem of_eq (hplan : t.plan = s.plan := by rfl) (hlayout : t.layout = s.layout := by rfl)
    (hparams : t.params = s.params := by rfl) (hselect : t.scan.liveSelect = s.scan.liveSelect := by rfl)
    (hboost : t.scan.liveBoost = s.scan.liveBoost := by rfl) (hqueue : t.map.queue = s.map.queue := by rfl) :
    Replans s t := .same ⟨hplan, hlayout, hparams, hselect, hboost, hqueue⟩

theorem refl (s : State) : Replans s s := of_eq

theorem of_only {bs : List Block} (h : OnlyChanges bs s t)
    (hbs : Block.plan ∉ bs ∧ Block.layout ∉ bs ∧ Block.params ∉ bs ∧ Block.scan ∉ bs ∧ Block.map ∉ bs := by decide) :
    Replans s t := by
  obtain ⟨hplan, hlayout, hparams, hscan, hmap⟩ := hbs
  have hscan := h .scan hscan
  exact of_eq (h .plan hplan) (h .layout hlayout) (h .params hparams) (congrArg Scan.liveSelect hscan)
    (congrArg Scan.liveBoost hscan) (congrArg DefectMap.queue (h .map hmap))

theorem of_acts {bs : List Block} (h : Acts bs s t)
    (hbs : Block.plan ∉ bs ∧ Block.layout ∉ bs ∧ Block.params ∉ bs ∧ Block.scan ∉ bs ∧ Block.map ∉ bs := by decide) :
    Replans s t := of_only h.only hbs

theorem foldl {β : Type} {f : State → β → State} (h : ∀ s x, Replans s (f s x)) (l : List β) (s : State) :
    Replans s (l.foldl f s) := by
  induction l generalizing s with
  | nil => exact refl s
  | cons x l ih => exact (h s x).trans (ih _)

end Replans

/-! ## Transitions and observations -/

section Observations
variable (die : Nat) (s : State)

theorem announce_replans (k : TransitionKind) (f : DieFault) (a b : Bool) : Replans s (announce k die f a b s) := by
  have hlog : ∀ t, Replans s (offerCapture t (kindEffects k (appendTransition t s))) := fun t =>
    (Replans.log t s).trans ((Replans.of_acts (kindEffects_acts k _)).trans (.of_acts (offerCapture_acts t _)))
  have hleft : ∀ u, Replans u (retestLeft k u) := fun u => .of_acts (retestLeft_acts k u)
  unfold announce standingRound
  cases a <;> cases b <;> dsimp only [Bool.false_eq_true, if_true, if_false]
  · exact hlog _
  · exact (hlog _).trans (hleft _)
  · exact (hlog _).trans (.round _ _ _)
  · exact (hlog _).trans ((Replans.round _ _ _).trans (hleft _))

theorem putRecord_replans (r : DefectRecord) : Replans s (putRecord die r s) := .of_eq

theorem dropRecord_replans : Replans s (dropRecord die s) := .of_eq

theorem putRecord_announce_replans (r : DefectRecord) (k : TransitionKind) (f : DieFault) (a b : Bool) :
    Replans s (announce k die f a b (putRecord die r s)) :=
  (putRecord_replans die s r).trans (announce_replans die _ k f a b)

theorem dropRecord_announce_replans (k : TransitionKind) (f : DieFault) (a b : Bool) :
    Replans s (announce k die f a b (dropRecord die s)) :=
  (dropRecord_replans die s).trans (announce_replans die _ k f a b)

variable {s} in
theorem makeRoom_replans {t : State} (h : makeRoom s = some t) : Replans s t := by
  unfold makeRoom at h
  split at h
  · obtain rfl := Option.some.inj h; exact .refl _
  · split at h
    · exact absurd h (by simp)
    · obtain rfl := Option.some.inj h; exact dropRecord_announce_replans _ _ _ _ _ _

theorem judgeSuspect_replans (r : DefectRecord) : Replans s (judgeSuspect die r s) := by
  unfold judgeSuspect
  split
  · exact putRecord_announce_replans _ _ _ _ _ _ _
  · split
    · exact dropRecord_announce_replans _ _ _ _ _ _
    · exact putRecord_replans _ _ _

theorem judgeRetest_replans (r : DefectRecord) (short : Bool) : Replans s (judgeRetest die r short s) := by
  unfold judgeRetest
  split
  · exact putRecord_announce_replans _ _ _ _ _ _ _
  · split
    · exact dropRecord_announce_replans _ _ _ _ _ _
    · exact putRecord_replans _ _ _

theorem observeNew_replans (o : TestAnswer) : Replans s (observeNew die o s) := by
  unfold observeNew
  cases o with
  | ok => exact .refl s
  | opened =>
    dsimp only
    split
    · exact .of_eq
    · next hroom =>
      exact (makeRoom_replans hroom).trans
        ((putRecord_announce_replans _ _ _ _ _ _ _).trans (judgeSuspect_replans _ _ _))
  | shorted =>
    dsimp only
    split
    · exact .of_eq
    · next hroom =>
      exact (makeRoom_replans hroom).trans
        ((putRecord_announce_replans _ _ _ _ _ _ _).trans (announce_replans _ _ _ _ _ _))

theorem observe_replans (o : TestAnswer) : Replans s (observe die o s) := by
  unfold observe
  split
  · exact observeNew_replans die s o
  · split
    · cases o with
      | ok => exact judgeSuspect_replans _ _ _
      | opened => exact judgeSuspect_replans _ _ _
      | shorted =>
        unfold observeSuspect confirmRecord
        exact putRecord_announce_replans _ _ _ _ _ _ _
    · cases o <;> exact judgeRetest_replans _ _ _ _
    all_goals exact .refl s

theorem abandonOne_replans : Replans s (abandonOne s die) := by
  unfold abandonOne
  split
  · exact .refl s
  · exact putRecord_announce_replans _ _ _ _ _ _ _

theorem endLong_replans (o : LongOutcome) : Replans s (endLong o s) := .of_eq

theorem stopLong_replans (o : LongOutcome) : Replans s (stopLong o s) := by
  unfold stopLong
  split
  · exact (Replans.foldl (fun s d => abandonOne_replans d s) _ s).trans .of_eq
  · exact .of_eq

theorem beginRetest_replans : Replans s (beginRetest s die) := by
  unfold beginRetest
  split
  · exact .refl s
  · exact putRecord_announce_replans _ _ _ _ _ _ _

end Observations

/-! ## The actions on records -/

section Actions
variable (p : List Byte) (s : State)

theorem actRetest_replans : Replans s (actRetest p s).1 := by
  unfold actRetest
  split
  · exact .refl s
  · have hturned : ∀ (dies : List Nat) (l : LongSlot), Replans s (setLong l (dies.foldl beginRetest s)) := fun dies l =>
      (Replans.foldl (fun s d => beginRetest_replans d s) dies s).trans .of_eq
    dsimp only
    split
    · exact (hturned _ _).trans ((endLong_replans _ _).trans (.of_acts (raise_acts .longDone _)))
    · exact hturned _ _

theorem actHalt_replans : Replans s (actHalt p s).1 := by
  unfold actHalt
  split
  · exact (stopLong_replans s .halted).trans (.of_acts (raise_acts .longDone _))
  · exact .refl s

theorem actPin_replans : Replans s (actPin p s).1 := by
  unfold actPin
  split
  · exact .refl s
  · split
    · exact .refl s
    · split
      · exact .refl s
      · unfold acceptPin
        split
        · unfold pinRecord
          dsimp only
          split
          · exact .refl s
          · exact putRecord_announce_replans _ _ _ _ _ _ _
        · split
          · exact .refl s
          · next hroom =>
            dsimp only
            exact (makeRoom_replans hroom).trans (putRecord_announce_replans _ _ _ _ _ _ _)

theorem actUnpin_replans : Replans s (actUnpin p s).1 := by
  unfold actUnpin
  split
  · exact .refl s
  · split
    · exact .refl s
    · split
      · exact .refl s
      · split
        · exact .refl s
        · dsimp only
          exact dropRecord_announce_replans _ _ _ _ _ _

theorem actRestore_replans : Replans s (actRestore p s).1 := by
  unfold actRestore
  split
  · exact .refl s
  · split
    · exact .refl s
    · split
      · exact .refl s
      · unfold acceptRestore
        split
        · split
          case h_4 | h_5 => exact putRecord_announce_replans _ _ _ _ _ _ _
          all_goals exact .refl s
        · split
          · exact .refl s
          · next hroom =>
            dsimp only
            exact (makeRoom_replans hroom).trans (putRecord_announce_replans _ _ _ _ _ _ _)

theorem actReleaseHold_replans : Replans s (actReleaseHold p s).1 := by
  unfold actReleaseHold
  split
  · exact .refl s
  · exact Replans.trans (t := s.setCapture { s.capture with held := 0 }) .of_eq ((Replans.resolve _).trans (.round _ _ _))

theorem actStandby_replans : Replans s (actStandby p s).1 := by
  unfold actStandby
  split
  · exact .refl s
  · exact .of_eq

end Actions

/-! ## Passes and gaps -/

section Passes
variable (s : State)

theorem requestStandby_replans : Replans s (requestStandby s) := by
  unfold requestStandby
  split
  · exact .of_eq
  · exact .refl s

theorem storePassStart_replans : Replans s (storePassStart s) := by
  have hcount : ∀ (c : Counter) (k : Nat) (x : List Row), Replans s (countTimes c k (s.setStore x)) := fun c k x =>
    Replans.trans (t := s.setStore x) .of_eq (.of_acts (countTimes_acts c k _))
  unfold storePassStart
  dsimp only
  split
  · exact hcount _ _ _
  · split
    · exact ((hcount _ _ _).trans (.of_acts (raise_acts .staleRow _))).trans (requestStandby_replans _)
    · exact (hcount _ _ _).trans (.of_acts (raise_acts .staleRow _))

theorem passStart_replans : Replans s (passStart s) :=
  Replans.trans (t := s.setScan s.scan.passBegun) .of_eq ((Replans.copy _).trans (storePassStart_replans _))

theorem wakeDisplay_replans : Replans s (wakeDisplay s) := by
  unfold wakeDisplay
  split
  · exact Replans.trans (t := s.setScan { s.scan with display := .waking, wakingLeft := 16, standby := .none }) .of_eq
      (passStart_replans _)
  · exact .refl s

theorem actWake_replans (p : List Byte) : Replans s (actWake p s).1 := by
  unfold actWake
  split
  · exact .refl s
  · exact wakeDisplay_replans s

theorem fallAsleep_replans : Replans s (fallAsleep s) := by
  have hcut : Replans s (cutForStandby (s.setScan s.scan.asleep)) :=
    Replans.trans (t := s.setScan s.scan.asleep) .of_eq (.of_acts (cutForStandby_acts _))
  unfold fallAsleep
  dsimp only
  split
  · exact hcut.trans ((stopLong_replans _ .haltedByStandby).trans .of_eq)
  · exact hcut

theorem endPass_replans : Replans s (endPass s) := by
  have hgap : ∀ u : State, Replans u (if u.scan.display = .active then gapStart u else u) := by
    intro u
    split
    · exact .of_acts (gapStart_acts u)
    · exact .refl u
  unfold endPass
  split
  · split
    · unfold enterStandby
      dsimp only
      split
      · exact (fallAsleep_replans s).trans (.of_acts (payOwedReply_acts _))
      · exact fallAsleep_replans s
    · exact Replans.trans (t := s.setScan { s.scan with phase := .gap, ports := silentPorts }) .of_eq (hgap _)
  · exact .refl s

theorem setModule_replans (i : Fin 8) (m : ModuleItem) : Replans s (setModule i m s) := .of_eq

theorem noAnswerModule_replans (i : Fin 8) : Replans s (noAnswerModule i s) := by
  unfold noAnswerModule
  dsimp only
  split
  · exact (setModule_replans s i _).trans ((Replans.of_acts (raise_acts .moduleDark _)).trans (.round _ _ _))
  · exact setModule_replans s i _

theorem answerModule_replans (i : Fin 8) (hot : Bool) : Replans s (answerModule i hot s) := by
  unfold answerModule
  dsimp only
  split
  · split
    · exact (setModule_replans s i _).trans ((Replans.of_acts (raise_acts .moduleHot _)).trans (.round _ _ _))
    · exact (setModule_replans s i _).trans (.round _ _ _)
  · split
    · exact (setModule_replans s i _).trans (.of_acts (raise_acts .moduleHot _))
    · exact setModule_replans s i _
  · split
    · exact setModule_replans s i _
    · exact setModule_replans s i _
  · exact setModule_replans s i _

theorem takeNoAnswer_replans (e : Nat × Bool) : Replans s (takeNoAnswer s e) := by
  have hmodule : Replans s (noAnswerModule (slotOfChannel (dieChannel e.1)) (markTaken e.1 s)) :=
    Replans.trans (t := markTaken e.1 s) .of_eq (noAnswerModule_replans _ _)
  unfold takeNoAnswer
  dsimp only
  split
  · exact hmodule.trans .of_eq
  · exact hmodule

theorem senseGapEnd_replans : Replans s (senseGapEnd s) := by
  have hcheck : ∀ u, Replans u (surveyCheck u) := by
    intro u
    unfold surveyCheck
    dsimp only
    split
    · exact .of_eq
    · exact .refl u
  unfold senseGapEnd
  refine Replans.trans (Replans.foldl takeNoAnswer_replans s.outstandingTests s) ?_
  generalize s.outstandingTests.foldl takeNoAnswer s = u
  exact Replans.trans (t := settleFalls u) .of_eq ((hcheck _).trans .of_eq)

theorem endGap_replans : Replans s (endGap s) := by
  have hwoken : ∀ u, Replans u (wokenCheck u) := by
    intro u
    unfold wokenCheck
    split
    · exact .of_eq
    · exact .refl u
  unfold endGap
  split
  · refine Replans.trans (Replans.trans ?_ (hwoken _)) (passStart_replans _)
    split
    · exact senseGapEnd_replans s
    · exact .refl s
  · exact .refl s

theorem judgeAnswer_replans (die : Nat) (serves : Bool) (o : TestAnswer) : Replans s (judgeAnswer die serves o s) := by
  unfold judgeAnswer
  split
  · exact .refl s
  · split
    · dsimp only
      split <;> exact .of_eq
    · split
      · exact Replans.trans (t := countTested o s) .of_eq (observe_replans die _ o)
      · exact observe_replans die s o

theorem takeAnswer_replans (x : GapTest) (o : TestAnswer) (hot : Bool) : Replans s (takeAnswer x o hot s) := by
  unfold takeAnswer
  split
  · exact .refl s
  · split
    · exact .refl s
    · exact Replans.trans (t := markTaken x.die s) .of_eq
        ((answerModule_replans _ _ _).trans (judgeAnswer_replans _ _ _ _))

theorem liveShort_replans (die : Nat) : Replans s (liveShort die s) := by
  unfold liveShort
  split
  · exact .refl s
  · split
    · exact .refl s
    · split
      · exact .of_eq
      · exact (Replans.cut _ s).trans ((observe_replans die _ .shorted).trans (.round _ _ _))

theorem abortLong_replans : Replans s (abortLong s) := by
  unfold abortLong
  split
  · exact stopLong_replans s .aborted
  · exact .refl s

theorem restartAll_replans : Replans s (restartAll s) := by
  have hblocks : Replans s (restartBlocks s) := by
    unfold restartBlocks
    rw [restartSense_eq]
    exact Replans.trans (t := restartItems (restartPicture (restartCapture s))) .of_eq (abortLong_replans _)
  rw [restartAll_eq]
  exact (hblocks.trans ((Replans.resolve _).trans (.round _ _ _))).trans (.of_only (setEvents_only _ _))

end Passes

/-! ## The link -/

section Link
variable (s : State)

theorem cutIfRows_replans : Replans s (if s.input.state = .rows then cutFrame s else s) := by
  split
  · exact .of_acts (cutFrame_acts s)
  · exact .refl s

theorem symbolError_replans : Replans s (symbolError s) :=
  Replans.trans (t := count .symbolErrors s) .of_eq ((cutIfRows_replans _).trans .of_eq)

theorem linkSync_replans : Replans s (linkSync s) := (cutIfRows_replans s).trans .of_eq

theorem settleSequence_replans (q : BitVec 16) : Replans s (settleSequence q s) := by
  unfold settleSequence
  dsimp only
  split <;> exact .of_eq

theorem judgeHeader_replans (h : List Byte) : Replans s (judgeHeader h s) := by
  have hsleeping : ∀ a b u, Replans u (headerInStandby a b u) := by
    intro a b u
    have hignored : Replans u (toRx .discard (count .framesIgnored u)) := .of_eq
    unfold headerInStandby
    dsimp only
    split
    · exact hignored.trans (wakeDisplay_replans _)
    · exact hignored
  unfold judgeHeader
  dsimp only
  split
  · exact .of_eq
  · split
    · exact .of_eq
    · split
      · exact (settleSequence_replans s _).trans (hsleeping _ _ _)
      · exact (settleSequence_replans s _).trans .of_eq

theorem updateRow_replans (y : Nat) (f : Row → Row) : Replans s (updateRow y f s) := .of_eq

theorem rowsData_replans (b : Byte) : Replans s (rowsData b s) := by
  have hrow : ∀ (c : Bool) (y : Nat) (f : Row → Row) (u : State), Replans u (if c then updateRow y f u else u) := by
    intro c y f u
    cases c
    · exact .refl u
    · exact updateRow_replans u y f
  have hinput : ∀ x, Replans s (s.setInput x) := fun _ => .of_eq
  unfold rowsData
  split
  · unfold blockIndex
    dsimp only
    split
    · split
      · exact (hinput _).trans ((updateRow_replans _ _ _).trans (.of_acts (count_acts .rowsSuperseded _)))
      · exact (hinput _).trans (updateRow_replans _ _ _)
    · exact hinput _
  · exact (hinput _).trans (hrow _ _ _ _)
  · unfold blockCheck
    dsimp only
    refine Replans.trans ?_ (hrow _ _ _ _)
    split
    · exact hinput _
    · exact (hinput _).trans (.of_acts (count_acts .rowsBad _))

theorem linkData_replans (b : Byte) : Replans s (linkData b s) := by
  have hheader : Replans s (s.setInput { s.input with header := s.input.header ++ [b] }) := .of_eq
  unfold linkData
  split
  · exact rowsData_replans s b
  · unfold headerData
    dsimp only
    split
    · exact hheader.trans (judgeHeader_replans _ _)
    · exact hheader

theorem sortByte_replans (b : Byte) : Replans s (sortByte b s) := by
  have hcompleted : Replans s (s.setInput { s.input with escape := false }) := .of_eq
  unfold sortByte
  split
  · exact .refl s
  · split
    · unfold completeEscape
      dsimp only
      refine hcompleted.trans ?_
      split
      · exact linkData_replans _ _
      · split
        · exact (symbolError_replans _).trans (linkSync_replans _)
        · exact symbolError_replans _
    · split
      · exact .of_eq
      · split
        · exact linkSync_replans s
        · split
          · unfold linkEndSymbol
            split
            · exact .of_acts (closeFrame_acts s)
            · exact symbolError_replans s
          · exact linkData_replans s b

theorem takeLinkByte_replans (b : Byte) : Replans s (takeLinkByte b s) := by
  have hsync : Replans s (if b = linkS1 then linkSync s else s) := by
    split
    · exact linkSync_replans s
    · exact .refl s
  unfold takeLinkByte
  split
  · exact hsync
  · unfold syncByte
    split
    · exact .of_eq
    · split
      · exact .refl s
      · exact .of_eq
  · exact sortByte_replans s b
  · exact sortByte_replans s b
  · exact hsync
  · unfold gapByte
    split
    · exact .refl s
    · split
      · exact linkSync_replans s
      · exact symbolError_replans s

theorem lightRow_replans : Replans s (lightRow s) := by
  have hclip : ∀ y, Replans s (markClip y s) := by
    intro y
    unfold markClip
    split
    · exact .of_eq
    · exact .refl s
  unfold lightRow
  dsimp only
  split
  · exact (hclip _).trans .of_eq
  · exact .refl s

end Link

/-! ## Every command -/

/-- An invariant of the plan, the live tables and the Transition Queue that every move keeps, and every command that sets
them or the parameters anew. -/
structure PlanInvariant (P : State → Prop) : Prop where
  same : ∀ {s t : State}, SamePlan s t → P s → P t
  log : ∀ x {s : State}, P s → P (appendTransition x s)
  takeOldest : ∀ k {s : State}, P s → P (s.setMap { s.map with queue := s.map.queue.drop k })
  round : ∀ a b {s : State}, P s → P (takeRound a b s)
  resolve : ∀ {s : State}, P s → P (clearDeferred s)
  copy : ∀ {s : State}, P s → P (planCopy s)
  cut : ∀ n {s : State}, P s → P (cutChannel n s)
  cleared : ∀ {s t : State}, t.plan = Plan.clear → t.scan.liveSelect = [] → t.scan.liveBoost = [] → t.map.queue = [] →
    t.params = s.params ∨ t.params = Params.defaults → P s → P t
  setParams : ∀ p {s : State}, P s → P (s.setParams (storedParams p))

namespace PlanInvariant

variable {P : State → Prop}

theorem replans (k : PlanInvariant P) {s t : State} (h : Replans s t) (hs : P s) : P t := by
  induction h with
  | same h => exact k.same h hs
  | log x _ => exact k.log x hs
  | takeOldest n _ => exact k.takeOldest n hs
  | round a b _ => exact k.round a b hs
  | resolve _ => exact k.resolve hs
  | copy _ => exact k.copy hs
  | cut n _ => exact k.cut n hs
  | trans _ _ ih ih' => exact ih' (ih hs)

theorem commands (k : PlanInvariant P) {s : State} (hs : P s) : CommandsKeep P s := by
  have hmoves : ∀ {t}, Replans s t → P t := fun h => k.replans h hs
  exact {
    control := fun u c h => k.same (s := u) ⟨rfl, rfl, rfl, rfl, rfl, rfl⟩ h
    idle := hs
    powerOn := fun t h => by
      obtain rfl := Host.Outcome.next.inj h
      exact k.cleared rfl rfl rfl rfl (Or.inr rfl) hs
    character := fun ch b => hmoves (.of_acts (takeCharacter_acts ch b s))
    setLayout := fun p => by
      unfold actSetLayout
      split
      · exact hs
      · split
        · exact hs
        · exact k.cleared (s := s) rfl rfl rfl rfl (Or.inl rfl) hs
    setParams := fun p => by
      have hset := k.setParams p hs
      unfold actSetParams
      dsimp only
      split
      · exact hset
      · exact k.round _ _ hset
    survey := fun p => hmoves (.of_acts (actSurvey_acts p s))
    retest := fun p => hmoves (actRetest_replans p s)
    halt := fun p => hmoves (actHalt_replans p s)
    pin := fun p => hmoves (actPin_replans p s)
    unpin := fun p => hmoves (actUnpin_replans p s)
    restore := fun p => hmoves (actRestore_replans p s)
    readTransitions := fun p => hmoves (.takeOldest 6 s)
    armCapture := fun p => hmoves (.of_acts (actArmCapture_acts p s))
    disarm := fun p => hmoves (.of_acts (actDisarm_acts p s))
    releaseHold := fun p => hmoves (actReleaseHold_replans p s)
    standby := fun p => hmoves (actStandby_replans p s)
    wake := fun p => hmoves (actWake_replans s p)
    restart := hmoves (restartAll_replans s)
    readEvents := fun p => hmoves (.of_only (actReadEvents_only p s))
    setMask := fun p => hmoves (.of_only (actSetMask_only p s))
    readCounters := fun p => hmoves (.of_acts (actReadCounters_acts p s))
    linkByte := fun b => hmoves (takeLinkByte_replans s b)
    lossOfSignal := hmoves (.of_acts (takeLossOfSignal_acts s))
    lightRow := hmoves (lightRow_replans s)
    passEnd := hmoves (endPass_replans s)
    gapEnd := hmoves (endGap_replans s)
    answer := fun x o hot => hmoves (takeAnswer_replans s x o hot)
    liveShort := fun d => hmoves (liveShort_replans s d) }

/-- Such an invariant is kept by every step. -/
theorem step (k : PlanInvariant P) {s t : State} (hstep : step s = .next t) (hs : P s) : P t :=
  step_keeps (fun _ h => k.same (s := s) ⟨rfl, rfl, rfl, rfl, rfl, rfl⟩ h) (fun _ _ hexec hs => (k.commands hs).exec hexec) hstep hs

end PlanInvariant

/-! ## What the moves leave of the live tables -/

section Copied
variable (p : Plan) (c : Scan) (ks : List Nat) (m : Nat)

theorem copyChannels_selectOf : (ks.foldl (copyChannel p) c).selectOf m = if m ∈ ks then p.selectOf m else c.selectOf m := by
  induction ks generalizing c with
  | nil => simp
  | cons n ks ih =>
    have hone : (copyChannel p c n).selectOf m = if m = n then p.selectOf n else c.selectOf m := Table.value_hold _ _ _ _ _
    rw [List.foldl_cons, ih, hone]
    by_cases hks : m ∈ ks
    · simp [hks]
    · by_cases hn : m = n
      · subst hn; simp [hks]
      · simp [hks, hn]

theorem copyChannels_entryOf : (ks.foldl (copyChannel p) c).entryOf m = if m ∈ ks then p.entryOf m else c.entryOf m := by
  induction ks generalizing c with
  | nil => simp
  | cons n ks ih =>
    have hone : (copyChannel p c n).entryOf m = if m = n then p.entryOf n else c.entryOf m := Table.fetch_assign _ _ _ _
    rw [List.foldl_cons, ih, hone]
    by_cases hks : m ∈ ks
    · simp [hks]
    · by_cases hn : m = n
      · subst hn; simp [hks]
      · simp [hks, hn]

end Copied

section PlanCopy
variable (s : State) (m : Nat)

theorem IndexSet.mem_keys_iff (t : IndexSet) : m ∈ t.keys ↔ IndexSet.has t m = true := Table.mem_keys t m

theorem planCopy_selectOf : (planCopy s).scan.selectOf m =
    if IndexSet.has s.plan.edited m = true then s.plan.selectOf m else s.scan.selectOf m := by
  have h := copyChannels_selectOf s.plan s.scan s.plan.edited.keys m
  simp only [IndexSet.mem_keys_iff] at h
  exact h

theorem planCopy_entryOf : (planCopy s).scan.entryOf m =
    if IndexSet.has s.plan.edited m = true then s.plan.entryOf m else s.scan.entryOf m := by
  have h := copyChannels_entryOf s.plan s.scan s.plan.edited.keys m
  simp only [IndexSet.mem_keys_iff] at h
  exact h

end PlanCopy

section CutChannel
variable (s : State) (n m : Nat)

theorem cutChannel_plan : (cutChannel n s).plan =
    { s.plan with select := Table.hold .a s.plan.select n .off, boost := Table.discard s.plan.boost n } := by
  unfold cutChannel
  dsimp only
  split <;> rfl

theorem cutChannel_scan : (cutChannel n s).scan =
    { s.scan with liveSelect := Table.hold .a s.scan.liveSelect n .off, liveBoost := Table.discard s.scan.liveBoost n } := by
  unfold cutChannel
  dsimp only
  split <;> rfl

theorem cutChannel_pendingSelectOf :
    (cutChannel n s).plan.selectOf m = if m = n then .off else s.plan.selectOf m := by
  rw [cutChannel_plan]; exact Table.value_hold .a s.plan.select n m .off

theorem cutChannel_liveSelectOf : (cutChannel n s).scan.selectOf m = if m = n then .off else s.scan.selectOf m := by
  rw [cutChannel_scan]; exact Table.value_hold .a s.scan.liveSelect n m .off

theorem cutChannel_pendingEntryOf : (cutChannel n s).plan.entryOf m = if m = n then none else s.plan.entryOf m := by
  rw [cutChannel_plan]; exact Table.fetch_assign s.plan.boost n m none

theorem cutChannel_liveEntryOf : (cutChannel n s).scan.entryOf m = if m = n then none else s.scan.entryOf m := by
  rw [cutChannel_scan]; exact Table.fetch_assign s.scan.liveBoost n m none

end CutChannel

theorem appendTransition_samePlan (x : Transition) (s : State) :
    (appendTransition x s).plan = s.plan ∧ (appendTransition x s).scan = s.scan ∧
      (appendTransition x s).layout = s.layout ∧ (appendTransition x s).params = s.params := by
  have h := (appendTransition_acts x s).only
  exact ⟨h.plan, h.scan, h.layout, h.params⟩

/-! ## LiveFollowsPlan -/

theorem LiveFollowsPlan.of_eq {s t : State} (hplan : t.plan = s.plan) (hselect : t.scan.liveSelect = s.scan.liveSelect)
    (hboost : t.scan.liveBoost = s.scan.liveBoost) (h : LiveFollowsPlan s) : LiveFollowsPlan t := by
  unfold LiveFollowsPlan Scan.selectOf Scan.entryOf at *
  rw [hplan, hselect, hboost]
  exact h

/-- After a pass start's copy the live tables are the plan's everywhere (R58). -/
theorem LiveFollowsPlan.copied {s : State} (h : LiveFollowsPlan s) (n : Nat) :
    (planCopy s).scan.selectOf n = s.plan.selectOf n ∧ (planCopy s).scan.entryOf n = s.plan.entryOf n := by
  rw [planCopy_selectOf, planCopy_entryOf]
  split
  · exact ⟨rfl, rfl⟩
  · next hedited => exact h n (by simpa using hedited)

theorem planInvariant_liveFollowsPlan : PlanInvariant LiveFollowsPlan where
  same h := .of_eq h.plan h.liveSelect h.liveBoost
  log x s h := by
    obtain ⟨hplan, hscan, -⟩ := appendTransition_samePlan x s
    exact .of_eq hplan (congrArg Scan.liveSelect hscan) (congrArg Scan.liveBoost hscan) h
  takeOldest _ _ h := h
  round a b s h n hedited := by
    rw [takeRound_has_edited, Bool.or_eq_false_iff, decide_eq_false_iff_not, not_or, not_not, not_not] at hedited
    obtain ⟨hbefore, hselect, hentry⟩ := hedited
    rw [takeRound_scan, hselect, hentry]
    exact h n hbefore
  resolve h := h
  copy h n _ := LiveFollowsPlan.copied h n
  cut n s h m hedited := by
    rw [cutChannel_liveSelectOf, cutChannel_liveEntryOf, cutChannel_pendingSelectOf, cutChannel_pendingEntryOf]
    have hbefore : IndexSet.has s.plan.edited m = false := by rw [cutChannel_plan] at hedited; exact hedited
    split
    · exact ⟨rfl, rfl⟩
    · exact h m hbefore
  cleared hplan hselect hboost _ _ _ n _ := by
    unfold Scan.selectOf Scan.entryOf
    rw [hplan, hselect, hboost]
    exact ⟨rfl, rfl⟩
  setParams _ _ h := h

/-! ## OffHoldsNoEntry -/

/-- The part of `OffHoldsNoEntry` about the plan. -/
def Plan.OffEmpty (p : Plan) : Prop := ∀ n, p.selectOf n = .off → p.entryOf n = none

theorem fetch_unboosted_of_none {l : Layout} {n m : Nat} {t : Table BoostEntry} (h : Table.fetch t m = none) :
    Table.fetch (l.unboosted n t) m = none := by
  by_cases hn : ∃ d, l.neighbour n d = some m
  · obtain ⟨d, hd⟩ := hn
    rw [Layout.fetch_unboosted_of_neighbour _ hd, h]; rfl
  · rw [Layout.fetch_unboosted_of_not _ fun d hd => hn ⟨d, hd⟩, h]

theorem roundKeeps_offEmpty : RoundKeeps (fun u => u.plan.OffEmpty) where
  defer _ _ h := h
  recompute n u _ h m hoff := by
    have hoff' : u.plan.selectOf m = .off := (selectOf_of_select (recompute_select n u) m).symm.trans hoff
    have hentry : (recompute n u).plan.entryOf m = Table.fetch (u.boostAfter n) m := by rw [recompute_eq]; rfl
    rw [hentry]
    exact fetch_boostAfter_of_lost u n hoff' (h m hoff')
  lose n u h m hoff := by
    have hentry : (loseChannel n u).plan.entryOf m = if m = n then none else u.plan.entryOf m :=
      Table.fetch_assign u.plan.boost n m none
    rw [hentry]
    split
    · rfl
    · next hne =>
      rw [selectOf_of_select (loseChannel_select n u), setPendingSelect_selectOf, if_neg hne] at hoff
      exact h m hoff
  regain n x u hx h m hoff := by
    rw [selectOf_of_select (regainChannel_select n x u), setPendingSelect_selectOf] at hoff
    split at hoff
    · exact absurd hoff hx
    · rw [regainChannel_eq]
      exact fetch_unboosted_of_none (h m hoff)
  swap n x u hx h m hoff := by
    rw [setPendingSelect_selectOf] at hoff
    split at hoff
    · exact absurd hoff hx
    · exact h m hoff

theorem OffHoldsNoEntry.of_eq {s t : State} (hplan : t.plan = s.plan) (hselect : t.scan.liveSelect = s.scan.liveSelect)
    (hboost : t.scan.liveBoost = s.scan.liveBoost) (h : OffHoldsNoEntry s) : OffHoldsNoEntry t := by
  unfold OffHoldsNoEntry Scan.selectOf Scan.entryOf at *
  rw [hplan, hselect, hboost]
  exact h

theorem planInvariant_offHoldsNoEntry : PlanInvariant OffHoldsNoEntry where
  same h := .of_eq h.plan h.liveSelect h.liveBoost
  log x s h := by
    obtain ⟨hplan, hscan, -⟩ := appendTransition_samePlan x s
    exact .of_eq hplan (congrArg Scan.liveSelect hscan) (congrArg Scan.liveBoost hscan) h
  takeOldest _ _ h := h
  round a b s h := by
    obtain ⟨hpending, hlive⟩ := h
    refine ⟨roundKeeps_offEmpty.roundEnd a b hpending, ?_⟩
    rw [takeRound_scan]
    exact hlive
  resolve h := h
  copy h := by
    obtain ⟨hpending, hlive⟩ := h
    refine ⟨hpending, fun n hoff => ?_⟩
    rw [planCopy_selectOf] at hoff
    rw [planCopy_entryOf]
    split at hoff
    · next hedited => rw [if_pos hedited]; exact hpending n hoff
    · next hedited => rw [if_neg hedited]; exact hlive n hoff
  cut n s h := by
    obtain ⟨hpending, hlive⟩ := h
    constructor
    · intro m hoff
      rw [cutChannel_pendingSelectOf] at hoff
      rw [cutChannel_pendingEntryOf]
      split
      · rfl
      · next hne => rw [if_neg hne] at hoff; exact hpending m hoff
    · intro m hoff
      rw [cutChannel_liveSelectOf] at hoff
      rw [cutChannel_liveEntryOf]
      split
      · rfl
      · next hne => rw [if_neg hne] at hoff; exact hlive m hoff
  cleared hplan hselect hboost _ _ _ := by
    unfold OffHoldsNoEntry Scan.selectOf Scan.entryOf
    rw [hplan, hselect, hboost]
    exact ⟨fun _ _ => rfl, fun _ _ => rfl⟩
  setParams _ _ h := h

/-- Settles O56, move by move: a round marks what it changes, a pass start copies what is marked, and a cut sets both copies. -/
theorem liveTablesFollowThePlan : Obligations.LiveTablesFollowThePlan :=
  fun _ _ hlive hoff hstep =>
    ⟨planInvariant_liveFollowsPlan.step hstep hlive, planInvariant_offHoldsNoEntry.step hstep hoff⟩

/-! ## SharesBounded -/

/-- What O57 speaks of: the parameters in range, the live tables following the plan, and the shares of both copies. -/
structure SharesSound (s : State) : Prop where
  params : ParamsInRange s
  live : LiveFollowsPlan s
  plan : SharesFit s.layout s.plan.boost
  scan : SharesFit s.layout s.scan.liveBoost

theorem sharesBounded_iff (s : State) :
    SharesBounded s ↔ SharesFit s.layout s.plan.boost ∧ SharesFit s.layout s.scan.liveBoost := by
  have hentry : ∀ (t : Table BoostEntry), (∀ m d share, Table.boostShare t m d = some share → 1 ≤ share ∧ share ≤ 256) ↔
      ∀ n e, Table.fetch t n = some e → ∀ d share, e.share d = some share → 1 ≤ share ∧ share ≤ 256 := by
    intro t
    constructor
    · intro h n e he d share hshare
      exact h n d share (by unfold Table.boostShare; rw [he]; exact hshare)
    · intro h m d share hshare
      unfold Table.boostShare at hshare
      obtain ⟨e, he, hshare⟩ := Option.bind_eq_some_iff.mp hshare
      exact h m e he d share hshare
  unfold SharesBounded SharesFit
  rw [hentry, hentry]
  constructor
  · rintro ⟨hsum, hrange⟩
    exact ⟨⟨fun n => (hsum n).1, fun n e he => hrange n e (Or.inl he)⟩,
      ⟨fun n => (hsum n).2, fun n e he => hrange n e (Or.inr he)⟩⟩
  · rintro ⟨⟨hsum, hrange⟩, hsum', hrange'⟩
    exact ⟨fun n => ⟨hsum n, hsum' n⟩, fun n e he => he.elim (hrange n e) (hrange' n e)⟩

/-- The shares fit in a table that reads the same. -/
theorem SharesFit.congr {l : Layout} {t u : Table BoostEntry} (h : SharesFit l t)
    (hread : ∀ m, Table.fetch u m = Table.fetch t m) : SharesFit l u :=
  h.of_fewer fun m d => Or.inr (by unfold Table.boostShare; rw [hread])

/-- The shares fit in a table without an entry. -/
theorem SharesFit.discard {l : Layout} {t : Table BoostEntry} (h : SharesFit l t) (n : Nat) :
    SharesFit l (Table.discard t n) := by
  refine h.of_fewer fun m d => ?_
  unfold Table.boostShare
  by_cases hm : m = n
  · subst hm; exact Or.inl (by rw [Table.fetch_discard_same]; rfl)
  · exact Or.inr (by rw [Table.fetch_discard_other _ hm])

theorem SharesFit.unboosted {l : Layout} {t : Table BoostEntry} (h : SharesFit l t) (n : Nat) :
    SharesFit l (l.unboosted n t) := by
  refine h.of_fewer fun m d => ?_
  rw [Layout.boostShare_unboosted]
  split
  · exact Or.inl rfl
  · exact Or.inr rfl

theorem roundKeeps_sharesFit : RoundKeeps (fun u => u.params.f ≤ 100 ∧ SharesFit u.layout u.plan.boost) where
  defer _ _ h := h
  recompute n u _ h := by
    obtain ⟨hf, hfit⟩ := h
    rw [recompute_eq]
    exact ⟨hf, hfit.boostAfter hf n⟩
  lose n u h := ⟨h.1, h.2.discard n⟩
  regain n x u _ h := by
    rw [regainChannel_eq]
    exact ⟨h.1, h.2.unboosted n⟩
  swap _ _ _ _ h := h

theorem storedParams_inRange (p : List Byte) (s : State) : ParamsInRange (s.setParams (storedParams p)) := by
  obtain ⟨hw2, hw15⟩ := clampTo_mem (low := 2) (high := 15) (byteAt p 0) (by decide)
  obtain ⟨hc1, hcw⟩ := clampTo_mem (low := 1) (high := clampTo 2 15 (byteAt p 0)) (byteAt p 1) (by omega)
  obtain ⟨hb1, hb8⟩ := clampTo_mem (low := 1) (high := 8) (byteAt p 3) (by decide)
  have hl : numberAt p 4 2 ≤ 65535 := by
    have h4 := (p.getD 4 0).isLt
    have h5 := (p.getD 5 0).isLt
    simp only [numberAt, byteAt]
    omega
  exact ⟨hw2, hw15, hc1, hcw, Nat.min_le_left _ _, hb1, hb8, hl⟩

theorem ParamsInRange.of_eq {s t : State} (hparams : t.params = s.params) (h : ParamsInRange s) : ParamsInRange t := by
  unfold ParamsInRange at *
  rw [hparams]
  exact h

theorem SharesSound.of_eq {s t : State} (hplan : t.plan = s.plan) (hlayout : t.layout = s.layout)
    (hparams : t.params = s.params) (hselect : t.scan.liveSelect = s.scan.liveSelect)
    (hboost : t.scan.liveBoost = s.scan.liveBoost) (h : SharesSound s) : SharesSound t where
  params := h.params.of_eq hparams
  live := .of_eq hplan hselect hboost h.live
  plan := by rw [hplan, hlayout]; exact h.plan
  scan := by rw [hboost, hlayout]; exact h.scan

theorem planInvariant_sharesSound : PlanInvariant SharesSound where
  same h := .of_eq h.plan h.layout h.params h.liveSelect h.liveBoost
  log x s h := by
    obtain ⟨hplan, hscan, hlayout, hparams⟩ := appendTransition_samePlan x s
    exact .of_eq hplan hlayout hparams (congrArg Scan.liveSelect hscan) (congrArg Scan.liveBoost hscan) h
  takeOldest _ s h := .of_eq (s := s) rfl rfl rfl rfl rfl h
  round a b s h := by
    have hf : s.params.f ≤ 100 := by obtain ⟨-, -, -, -, hf, -⟩ := h.params; exact hf
    have hacts := RoundKeeps.roundEnd (P := fun u => u.layout = s.layout)
      { defer := fun _ _ h => h
        recompute := fun n u _ h => by rw [recompute_eq]; exact h
        lose := fun _ _ h => h
        regain := fun n x u _ h => by rw [regainChannel_eq]; exact h
        swap := fun _ _ _ _ h => h } a b rfl
    obtain ⟨-, hfit⟩ := roundKeeps_sharesFit.roundEnd a b ⟨hf, h.plan⟩
    exact {
      params := h.params.of_eq (takeRound_params a b s)
      live := planInvariant_liveFollowsPlan.round a b h.live
      plan := by rw [takeRound_layout, ← hacts]; exact hfit
      scan := by rw [takeRound_layout, takeRound_scan]; exact h.scan }
  resolve h := ⟨h.params, h.live, h.plan, h.scan⟩
  copy h := {
    params := h.params
    live := planInvariant_liveFollowsPlan.copy h.live
    plan := h.plan
    scan := h.plan.congr fun m => (h.live.copied m).2 }
  cut n s h := {
    params := h.params.of_eq (cutChannel_acts n s).only.params
    live := planInvariant_liveFollowsPlan.cut n h.live
    plan := by rw [cutChannel_plan, (cutChannel_acts n s).only.layout]; exact h.plan.discard n
    scan := by rw [cutChannel_scan, (cutChannel_acts n s).only.layout]; exact h.scan.discard n }
  cleared := fun {_ t} hplan hselect hboost hqueue hparams h => {
    params := hparams.elim (fun hp => h.params.of_eq hp)
      fun hp => ParamsInRange.of_eq (s := State.reset) hp (by unfold ParamsInRange; decide)
    live := planInvariant_liveFollowsPlan.cleared hplan hselect hboost hqueue hparams h.live
    plan := by rw [hplan]; exact sharesFit_nil t.layout
    scan := by rw [hboost]; exact sharesFit_nil t.layout }
  setParams p s h := ⟨storedParams_inRange p s, h.live, h.plan, h.scan⟩

/-- Settles O57: the k donors of a recompute share at most 256 among them, and every other move takes boosts away. -/
theorem sharesStayBounded : Obligations.SharesStayBounded := by
  intro s t hparams hlive hshares hstep
  obtain ⟨hplan, hscan⟩ := (sharesBounded_iff s).mp hshares
  have ht := planInvariant_sharesSound.step hstep ⟨hparams, hlive, hplan, hscan⟩
  exact ⟨ht.params, (sharesBounded_iff t).mpr ⟨ht.plan, ht.scan⟩⟩

end Sys2Proof.Machine
end


section
/-! PROOFS. The hand-on of messages (R178 to R181): what each command's action may answer, and the claims about every kind. -/

namespace Sys2Proof.Machine

/-! ## What an action may answer -/

/-- An outcome of an action on `s` that is answered at once, and that has changed nothing if it is a refusal (R180). -/
def SettledAtOnce (s : State) (r : State × Answer) : Prop := r.2 ≠ .owed ∧ ∀ st, r.2 = .refuse st → r.1 = s

theorem SettledAtOnce.ok (s u : State) (data : List Byte) : SettledAtOnce s (u, .ok data) :=
  ⟨Answer.noConfusion, fun _ h => Answer.noConfusion h⟩

theorem SettledAtOnce.refuse (s : State) (st : Status) : SettledAtOnce s (s, .refuse st) :=
  ⟨Answer.noConfusion, fun _ _ => rfl⟩

/-- An action whose every outcome is settled at once. -/
def AnswersAtOnce (act : List Byte → State → State × Answer) : Prop := ∀ p s, SettledAtOnce s (act p s)

section Actions

theorem actIdentify_answers : AnswersAtOnce actIdentify := fun _ _ => .ok _ _ _

theorem actGetStatus_answers : AnswersAtOnce actGetStatus := by
  intro p s
  unfold actGetStatus
  split
  · exact .refuse s _
  · exact .ok _ _ _

theorem actSetLayout_answers : AnswersAtOnce actSetLayout := by
  intro p s
  unfold actSetLayout
  split
  · exact .refuse s _
  · split
    · exact .refuse s _
    · exact .ok _ _ _

theorem actGetLayout_answers : AnswersAtOnce actGetLayout := by
  intro p s
  unfold actGetLayout
  split <;> exact .ok _ _ _

theorem actSetParams_answers : AnswersAtOnce actSetParams := fun _ _ => .ok _ _ _

theorem actGetParams_answers : AnswersAtOnce actGetParams := fun _ _ => .ok _ _ _

theorem actSurvey_answers : AnswersAtOnce actSurvey := by
  intro p s
  unfold actSurvey
  split
  · exact .refuse s _
  · exact .ok _ _ _

theorem actRetest_answers : AnswersAtOnce actRetest := by
  intro p s
  unfold actRetest
  split
  · exact .refuse s _
  · exact .ok _ _ _

theorem actHalt_answers : AnswersAtOnce actHalt := by
  intro p s
  unfold actHalt
  split <;> exact .ok _ _ _

theorem actPin_answers : AnswersAtOnce actPin := by
  intro p s
  unfold actPin
  split
  · exact .refuse s _
  · split
    · exact .refuse s _
    · split
      · exact .refuse s _
      · unfold acceptPin
        split
        · exact .ok _ _ _
        · split
          · exact .refuse s _
          · exact .ok _ _ _

theorem actUnpin_answers : AnswersAtOnce actUnpin := by
  intro p s
  unfold actUnpin
  split
  · exact .refuse s _
  · split
    · exact .refuse s _
    · split
      · exact .refuse s _
      · split
        · exact .refuse s _
        · exact .ok _ _ _

theorem actRestore_answers : AnswersAtOnce actRestore := by
  intro p s
  unfold actRestore
  split
  · exact .refuse s _
  · split
    · exact .refuse s _
    · split
      · exact .refuse s _
      · unfold acceptRestore
        split
        · split
          case h_1 | h_2 => exact .refuse s _
          all_goals exact .ok _ _ _
        · split
          · exact .refuse s _
          · exact .ok _ _ _

theorem actReadMap_answers : AnswersAtOnce actReadMap := by
  intro p s
  unfold actReadMap
  split
  · exact .refuse s _
  · exact .ok _ _ _

theorem actReadTransitions_answers : AnswersAtOnce actReadTransitions := fun _ _ => .ok _ _ _

theorem actReadPlan_answers : AnswersAtOnce actReadPlan := by
  intro p s
  unfold actReadPlan
  split
  · exact .refuse s _
  · exact .ok _ _ _

theorem actArmCapture_answers : AnswersAtOnce actArmCapture := by
  intro p s
  unfold actArmCapture
  split
  · exact .refuse s _
  · exact .ok _ _ _

theorem actDisarm_answers : AnswersAtOnce actDisarm := fun _ _ => .ok _ _ _

theorem actReadCapture_answers : AnswersAtOnce actReadCapture := fun _ _ => .ok _ _ _

theorem actReleaseHold_answers : AnswersAtOnce actReleaseHold := by
  intro p s
  unfold actReleaseHold
  split <;> exact .ok _ _ _

theorem actWake_answers : AnswersAtOnce actWake := by
  intro p s
  unfold actWake
  split
  · exact .refuse s _
  · exact .ok _ _ _

theorem actRestart_answers : AnswersAtOnce actRestart := fun _ _ => .ok _ _ _

theorem actReadEvents_answers : AnswersAtOnce actReadEvents := fun _ _ => .ok _ _ _

theorem actSetMask_answers : AnswersAtOnce actSetMask := fun _ _ => .ok _ _ _

theorem actReadCounters_answers : AnswersAtOnce actReadCounters := by
  intro p s
  unfold actReadCounters
  split
  · exact .ok _ _ _
  · exact .ok _ _ _
  · exact .refuse s _

end Actions

/-! ## The kinds of R181 -/

/-- STANDBY's action refuses nothing. -/
theorem actStandby_ne_refuse (p : List Byte) (s : State) (st : Status) : (actStandby p s).2 ≠ .refuse st := by
  unfold actStandby
  split <;> exact Answer.noConfusion

/-- A row of R181's table: the command hands the message on to an action that changes nothing when it refuses. -/
def HandsOnKind (e : Instr × Byte × List Nat) : Prop :=
  payloadLengths e.2.1 = some e.2.2 ∧ ∃ act : List Byte → State → State × Answer,
    (∀ s, exec e.1 s = .next (handOn e.2.1 act s)) ∧ ∀ p s st, (act p s).2 = .refuse st → (act p s).1 = s

theorem AnswersAtOnce.handsOnKind {act : List Byte → State → State × Answer} (h : AnswersAtOnce act)
    {e : Instr × Byte × List Nat} (hlengths : payloadLengths e.2.1 = some e.2.2)
    (hexec : ∀ s, exec e.1 s = .next (handOn e.2.1 act s)) : HandsOnKind e :=
  ⟨hlengths, act, hexec, fun p s => (h p s).2⟩

/-- The table of R181, taken row by row. -/
theorem messageKinds_handOn : ∀ e ∈ messageKinds, HandsOnKind e := by
  simp only [messageKinds, List.forall_mem_cons]
  exact ⟨actIdentify_answers.handsOnKind rfl fun _ => rfl, actGetStatus_answers.handsOnKind rfl fun _ => rfl,
    actSetLayout_answers.handsOnKind rfl fun _ => rfl, actGetLayout_answers.handsOnKind rfl fun _ => rfl,
    actSetParams_answers.handsOnKind rfl fun _ => rfl, actGetParams_answers.handsOnKind rfl fun _ => rfl,
    actSurvey_answers.handsOnKind rfl fun _ => rfl, actRetest_answers.handsOnKind rfl fun _ => rfl,
    actHalt_answers.handsOnKind rfl fun _ => rfl, actPin_answers.handsOnKind rfl fun _ => rfl,
    actUnpin_answers.handsOnKind rfl fun _ => rfl, actRestore_answers.handsOnKind rfl fun _ => rfl,
    actReadMap_answers.handsOnKind rfl fun _ => rfl, actReadTransitions_answers.handsOnKind rfl fun _ => rfl,
    actReadPlan_answers.handsOnKind rfl fun _ => rfl, actArmCapture_answers.handsOnKind rfl fun _ => rfl,
    actDisarm_answers.handsOnKind rfl fun _ => rfl, actReadCapture_answers.handsOnKind rfl fun _ => rfl,
    actReleaseHold_answers.handsOnKind rfl fun _ => rfl,
    ⟨rfl, actStandby, fun _ => rfl, fun p s st h => absurd h (actStandby_ne_refuse p s st)⟩,
    actWake_answers.handsOnKind rfl fun _ => rfl, actRestart_answers.handsOnKind rfl fun _ => rfl,
    actReadEvents_answers.handsOnKind rfl fun _ => rfl, actSetMask_answers.handsOnKind rfl fun _ => rfl,
    actReadCounters_answers.handsOnKind rfl fun _ => rfl, fun _ h => absurd h List.not_mem_nil⟩

theorem payloadLengths_eq_none_iff (k : Byte) : payloadLengths k = none ↔ ∀ e ∈ messageKinds, e.2.1 ≠ k := by
  constructor
  · intro hnone e he heq
    obtain ⟨hlengths, -⟩ := messageKinds_handOn e he
    rw [heq, hnone] at hlengths
    exact absurd hlengths (by simp)
  · intro hother
    have hvalue : ∀ e ∈ messageKinds, k.toNat ≠ e.2.1.toNat := fun e he heq =>
      hother e he (BitVec.eq_of_toNat_eq heq.symm)
    simp only [messageKinds, List.forall_mem_cons] at hvalue
    unfold payloadLengths
    split <;> simp_all

theorem formReply_refused {c : Instr} {s : State} {m : Message} {rest : List Message} {st : Status}
    (h : Handing s m rest) (hexec : exec c s = .next (formReply m st [] s)) : Refused c s m rest st.code :=
  ⟨_, hexec, formReply_answered h rfl st [], (formReply_acts m st [] s).only⟩

theorem handOn_of_badLength {s : State} {m : Message} {rest : List Message} {kind : Byte}
    {act : List Byte → State → State × Answer} (h : Handing s m rest) (hkind : m.kind = kind)
    (hlength : m.payload.length ∉ (payloadLengths kind).getD []) : handOn kind act s = formReply m .badArg [] s := by
  simp only [handOn, handable_of_handing h, if_pos hkind, if_neg hlength]

/-- Settles O8: the kind is looked up first, then the length. -/
theorem kindAndLengthJudgedFirst : Obligations.KindAndLengthJudgedFirst := by
  constructor
  · intro s m rest h hkinds
    refine formReply_refused (st := .unknown) h ?_
    show Host.Outcome.next (handOnUnknown s) = _
    unfold handOnUnknown
    rw [handable_of_handing h]
    simp only [(payloadLengths_eq_none_iff m.kind).mpr hkinds, if_true]
  · intro e he s m rest h hkind hlength
    obtain ⟨hlengths, act, hexec, -⟩ := messageKinds_handOn e he
    have hbad : m.payload.length ∉ (payloadLengths e.2.1).getD [] := by rw [hlengths]; exact hlength
    refine formReply_refused (st := .badArg) h ?_
    rw [hexec, handOn_of_badLength h hkind hbad]

/-- A reply's payload is told by the Control Port it leaves. -/
theorem Answered.payload_unique {s t : State} {m : Message} {rest : List Message} {x y : List Byte}
    (h : Answered s t m rest x) (k : Answered s t m rest y) : x = y := by
  have hreplies := congrArg ControlPort.replies (h.symm.trans k)
  simpa using hreplies

/-- Settles O9: an OK reply has status 0, and a refusal leaves the state as it is. -/
theorem refusalChangesNothing : Obligations.RefusalChangesNothing := by
  intro e he s t m rest st data h hkind hexec hanswered hst
  obtain ⟨-, act, hhands, hrefuse⟩ := messageKinds_handOn e he
  have ht : t = handOn e.2.1 act s := Host.Outcome.next.inj (hexec.symm.trans (hhands s))
  have hrefused : ∀ {x : Status}, t = formReply m x [] s → data = [] ∧ OnlyChanges [.control] s t := by
    rintro x rfl
    have hpayload := hanswered.payload_unique (formReply_answered h rfl x [])
    exact ⟨(List.cons.inj hpayload).2, (formReply_acts m x [] s).only⟩
  by_cases hlength : m.payload.length ∈ (payloadLengths e.2.1).getD []
  · rw [handOn_of_handing h hkind hlength] at ht
    have hsame := hrefuse m.payload s
    unfold settleAnswer at ht
    split at ht
    · next data' _ =>
      have hzero : t.control.replies = (act m.payload s).1.control.replies ++ [replyTo m .ok data'] := by rw [ht]; rfl
      unfold Answered at hanswered
      rw [hanswered] at hzero
      have hlast := congrArg (fun l => l.getLast?.map Reply.payload) hzero
      simp only [List.getLast?_concat, Option.map_some, replyTo, Option.some.injEq, List.cons.injEq] at hlast
      exact absurd hlast.1 hst
    · next status hstatus =>
      rw [hsame status hstatus] at ht
      exact hrefused ht
    · have hin : t.control.inHand = true := by rw [ht]; rfl
      unfold Answered at hanswered
      rw [hanswered] at hin
      exact absurd hin (by simp)
  · rw [handOn_of_badLength h hkind hlength] at ht
    exact hrefused ht

theorem handable_eq_some_iff {s : State} {m : Message} : s.handable = some m ↔
    s.control.inHand = false ∧ s.control.replies.length < 4 ∧ s.control.queue.head? = some m := by
  unfold State.handable
  have hcapacity : Config.replyCapacity = 4 := rfl
  rw [hcapacity]
  split
  · next hshut =>
    refine iff_of_false (by simp) fun h => ?_
    obtain ⟨hhand, hroom, -⟩ := h
    rw [hhand] at hshut
    exact hshut.elim Bool.false_ne_true (by omega)
  · next hopen =>
    rw [not_or, Bool.not_eq_true, Nat.not_le] at hopen
    exact ⟨fun h => ⟨hopen.1, hopen.2, h⟩, fun h => h.2.2⟩

/-- Settles O10: without a message to hand on, or with one of another kind, a hand-on is the identity. -/
theorem handOnNeedsItsMessage : Obligations.HandOnNeedsItsMessage := by
  have hshut : ∀ {s : State} {m : Message}, s.handable = some m → ¬ (s.control.inHand = true ∨ 4 ≤ s.control.replies.length) := by
    intro s m hm h
    obtain ⟨hhand, hroom, -⟩ := handable_eq_some_iff.mp hm
    rw [hhand] at h
    exact h.elim Bool.false_ne_true (by omega)
  constructor
  · intro e he s h
    obtain ⟨-, act, hexec, -⟩ := messageKinds_handOn e he
    rw [hexec]
    congr 1
    unfold handOn
    split
    · rfl
    · next m hm =>
      obtain ⟨-, -, hhead⟩ := handable_eq_some_iff.mp hm
      have hkind : m.kind ≠ e.2.1 := by
        obtain hhand | hfull | hother := h
        · exact absurd (Or.inl hhand) (hshut hm)
        · exact absurd (Or.inr hfull) (hshut hm)
        · exact hother m hhead
      rw [if_neg hkind]
  · intro s h
    show Host.Outcome.next (handOnUnknown s) = _
    congr 1
    unfold handOnUnknown
    split
    · rfl
    · next m hm =>
      obtain ⟨-, -, hhead⟩ := handable_eq_some_iff.mp hm
      have hknown : payloadLengths m.kind ≠ none := by
        obtain hhand | hfull | hknown := h
        · exact absurd (Or.inl hhand) (hshut hm)
        · exact absurd (Or.inr hfull) (hshut hm)
        · obtain ⟨e, he, hkind⟩ := hknown m hhead
          exact fun hnone => (payloadLengths_eq_none_iff m.kind).mp hnone e he hkind
      rw [if_neg hknown]

/-! ## Sending a reply -/

theorem frameCharacters_eq (c : List Byte) : frameCharacters c = portStart :: c.flatMap portEscape ++ [portEnd] := rfl

theorem sumOf_append_check (c : List Byte) : sumOf (c ++ [0 - contentSum c]) = 0 := by
  have hsum : sumOf (c ++ [0 - contentSum c]) = contentSum c + (0 - contentSum c) := by
    simp [sumOf, contentSum, List.foldl_append]
  rw [hsum]
  bv_omega

/-- Settles O7: the check of a reply is the byte that makes its content sum to 0. -/
theorem replySentLeavesBuffer : Obligations.ReplySentLeavesBuffer := by
  constructor
  · intro s r rest hreplies
    refine ⟨0 - contentSum (r.kind :: r.tag :: r.payload), sumOf_append_check _, ?_⟩
    show Host.Outcome.next (sendReply s) = _
    unfold sendReply
    rw [hreplies]
    rfl
  · intro s hreplies
    show Host.Outcome.next (sendReply s) = _
    unfold sendReply
    rw [hreplies]

end Sys2Proof.Machine
end


section
/-! PROOFS. Pass starts (R57, R58, R42 to R48): what they leave of the display, the live tables and the rows. -/

namespace Sys2Proof.Machine

/-! ## The Row Store at a pass start -/

/-- The rows a pass start leaves: each visited, then checked against the stale limit (R42 to R45). -/
def State.passRows (s : State) : List Row := (s.store.map Row.commit).map (Row.checked s.params.l)

/-- How many rows a pass start blanks (R45). -/
def State.newlyStale (s : State) : Nat := staleCount s.params.l (s.store.map Row.commit)

/-- Whether a pass start makes an automatic standby request (R48). -/
def State.asksStandby (s : State) : Bool :=
  decide (s.newlyStale ≠ 0) && s.params.autoStandby && s.passRows.all Row.blanked

theorem requestStandby_scan (s : State) : (requestStandby s).scan =
    { s.scan with standby := if s.scan.standby = .none then .requested else s.scan.standby } := by
  unfold requestStandby
  split <;> rfl

section StorePassStart
variable (s : State)

theorem storePassStart_of_none (h : s.newlyStale = 0) : storePassStart s = s.setStore s.passRows := by
  unfold storePassStart
  dsimp only
  rw [show staleCount s.params.l (s.store.map Row.commit) = 0 from h]
  rfl

theorem storePassStart_of_some (h : s.newlyStale ≠ 0) : storePassStart s =
    let u := raise .staleRow (countTimes .rowsBlanked s.newlyStale (s.setStore s.passRows))
    if s.params.autoStandby = true ∧ s.passRows.all Row.blanked = true then requestStandby u else u := by
  have hparams : ∀ u : State, (countTimes .rowsBlanked s.newlyStale u).params = u.params := fun u =>
    (countTimes_acts _ _ u).only.params
  unfold storePassStart
  dsimp only
  rw [if_neg (show ¬ staleCount s.params.l (s.store.map Row.commit) = 0 from h), raise_params,
    show staleCount s.params.l (s.store.map Row.commit) = s.newlyStale from rfl, hparams]
  rfl

theorem storePassStart_store : (storePassStart s).store = s.passRows := by
  by_cases h : s.newlyStale = 0
  · rw [storePassStart_of_none s h]; rfl
  · rw [storePassStart_of_some s h, countTimes_eq]
    dsimp only
    split
    · exact (requestStandby_acts _).only.store
    · rfl

theorem storePassStart_events : (storePassStart s).events =
    if s.newlyStale = 0 then s.events
    else (s.events.countedTimes .rowsBlanked s.newlyStale).raised .staleRow := by
  by_cases h : s.newlyStale = 0
  · rw [storePassStart_of_none s h, if_pos h]; rfl
  · rw [storePassStart_of_some s h, countTimes_eq, if_neg h]
    dsimp only
    split
    · exact (requestStandby_acts _).only.events
    · rfl

theorem storePassStart_scan : (storePassStart s).scan =
    { s.scan with standby := if s.asksStandby = true ∧ s.scan.standby = .none then .requested else s.scan.standby } := by
  by_cases h : s.newlyStale = 0
  · have hasks : s.asksStandby = false := by simp [State.asksStandby, h]
    rw [storePassStart_of_none s h, hasks]; rfl
  · have hiff : s.asksStandby = true ↔ s.params.autoStandby = true ∧ s.passRows.all Row.blanked = true := by
      simp only [State.asksStandby, h, ne_eq, not_false_eq_true, decide_true, Bool.true_and, Bool.and_eq_true]
    rw [storePassStart_of_some s h, countTimes_eq]
    dsimp only
    simp only [hiff]
    split
    · next hasks =>
      rw [requestStandby_scan]
      simp only [hasks, true_and]
      rfl
    · next hasks => rw [if_neg fun hall => hasks hall.1]; rfl

end StorePassStart

/-! ## The live tables at a pass start -/

theorem copyChannels_eq (p : Plan) (c : Scan) (ks : List Nat) : ks.foldl (copyChannel p) c =
    { c with
      liveSelect := (ks.foldl (copyChannel p) c).liveSelect, liveBoost := (ks.foldl (copyChannel p) c).liveBoost } := by
  induction ks generalizing c with
  | nil => rfl
  | cons n ks ih => rw [List.foldl_cons, ih]; rfl

/-- A copy of the plan changes the live tables alone in the engine. -/
theorem planCopy_scan (s : State) : (planCopy s).scan =
    { s.scan with liveSelect := (planCopy s).scan.liveSelect, liveBoost := (planCopy s).scan.liveBoost } :=
  copyChannels_eq s.plan s.scan s.plan.edited.keys

section PassStart
variable (s : State)

theorem passStart_plan : (passStart s).plan = { s.plan with edited := [] } :=
  (storePassStart_acts (planCopy (s.setScan s.scan.passBegun))).only.plan

theorem passStart_store : (passStart s).store = s.passRows := storePassStart_store _

theorem passStart_events : (passStart s).events =
    if s.newlyStale = 0 then s.events
    else (s.events.countedTimes .rowsBlanked s.newlyStale).raised .staleRow := storePassStart_events _

theorem passStart_scan : (passStart s).scan =
    { s.scan.passBegun with
      liveSelect := (planCopy (s.setScan s.scan.passBegun)).scan.liveSelect
      liveBoost := (planCopy (s.setScan s.scan.passBegun)).scan.liveBoost
      standby := if s.asksStandby = true ∧ s.scan.standby = .none then .requested else s.scan.standby } := by
  unfold passStart
  rw [storePassStart_scan, planCopy_scan]
  rfl

theorem passStart_selectOf (n : Nat) : (passStart s).scan.selectOf n =
    if IndexSet.has s.plan.edited n = true then s.plan.selectOf n else s.scan.selectOf n := by
  rw [show (passStart s).scan.selectOf n = (planCopy (s.setScan s.scan.passBegun)).scan.selectOf n by
    unfold Scan.selectOf; rw [passStart_scan]]
  exact planCopy_selectOf _ n

theorem passStart_entryOf (n : Nat) : (passStart s).scan.entryOf n =
    if IndexSet.has s.plan.edited n = true then s.plan.entryOf n else s.scan.entryOf n := by
  rw [show (passStart s).scan.entryOf n = (planCopy (s.setScan s.scan.passBegun)).scan.entryOf n by
    unfold Scan.entryOf; rw [passStart_scan]]
  exact planCopy_entryOf _ n

/-- A pass start owes no reply. -/
theorem passStart_standby_owed : (passStart s).scan.standby = .requestedOwed ↔ s.scan.standby = .requestedOwed := by
  rw [passStart_scan]
  dsimp only
  split
  · next h => rw [h.2]; exact iff_of_false StandbyWaiting.noConfusion StandbyWaiting.noConfusion
  · exact Iff.rfl

end PassStart

/-! ## Waking -/

theorem wakeDisplay_of_not {s : State} (h : ¬ (s.scan.display = .standby ∧ s.layout.status = .set)) : wakeDisplay s = s := by
  unfold wakeDisplay
  rw [if_neg h]

/-- The engine as a wake hands it to the first WAKING pass (R60). -/
def Scan.woken (c : Scan) : Scan := { c with display := .waking, wakingLeft := 16, standby := .none }

theorem wakeDisplay_of_asleep {s : State} (hdisplay : s.scan.display = .standby) (hset : s.layout.status = .set) :
    wakeDisplay s = passStart (s.setScan s.scan.woken) := by
  unfold wakeDisplay
  rw [if_pos ⟨hdisplay, hset⟩]
  rfl

end Sys2Proof.Machine
end


section
/-! PROOFS. Every step keeps the tables canonical, the queues within capacity, and the display, its phase, the gap list and
the message in hand in agreement (O55). -/

namespace Sys2Proof.Machine

/-! ## The plan, the live tables and the Transition Queue -/

/-- A table in canonical form that lists no default. -/
def Table.Listed {α : Type} (d : α) (t : Table α) : Prop := Table.canonical t = true ∧ ∀ k, Table.fetch t k ≠ some d

namespace Table.Listed

variable {α : Type} {d : α} {t : Table α}

theorem nil (d : α) : Table.Listed d [] := ⟨rfl, fun _ h => absurd h (by simp)⟩

theorem ne_of_mem (h : Table.Listed d t) : ∀ e ∈ t, e.2 ≠ d := fun e he heq =>
  h.2 e.1 (by rw [← heq]; exact Table.fetch_of_mem h.1 he)

theorem of_mem (hc : Table.canonical t = true) (h : ∀ e ∈ t, e.2 ≠ d) : Table.Listed d t :=
  ⟨hc, fun _ hk => h _ (Table.mem_of_fetch hk) rfl⟩

theorem hold [DecidableEq α] (h : Table.Listed d t) (k : Nat) (v : α) : Table.Listed d (Table.hold d t k v) := by
  refine ⟨Table.canonical_hold k v h.1, fun j => ?_⟩
  unfold Table.hold
  split
  · by_cases hj : j = k
    · subst hj; simp
    · rw [Table.fetch_discard_other _ hj]; exact h.2 j
  · next hv =>
    by_cases hj : j = k
    · subst hj; simpa using hv
    · rw [Table.fetch_store_other _ _ hj]; exact h.2 j

theorem assign (h : Table.Listed d t) (k : Nat) {v : Option α} (hv : v ≠ some d) : Table.Listed d (Table.assign t k v) := by
  refine ⟨Table.canonical_assign k v h.1, fun j => ?_⟩
  rw [Table.fetch_assign]
  split
  · exact hv
  · exact h.2 j

theorem discard (h : Table.Listed d t) (k : Nat) : Table.Listed d (Table.discard t k) :=
  h.assign k (v := none) (by simp)

end Table.Listed

/-- What O55 says of the plan's tables. -/
structure Plan.Sound (p : Plan) : Prop where
  select : Table.Listed .a p.select
  boost : Table.Listed BoostEntry.empty p.boost
  shortfall : Table.canonical p.shortfall = true
  deferred : Table.canonical p.deferred = true
  edited : Table.canonical p.edited = true
  capacity : p.boost.length ≤ Config.boostCapacity

theorem Plan.sound_clear : Plan.clear.Sound := ⟨.nil _, .nil _, rfl, rfl, rfl, Nat.zero_le _⟩

theorem roundKeeps_planSound : RoundKeeps (fun u => u.plan.Sound) where
  defer n u h := { h with deferred := Table.canonical_store n () h.deferred }
  recompute n u _ h := by
    rw [recompute_eq]
    refine { h with
      boost := ⟨canonical_boostAfter u n h.boost.1, fun m => fetch_boostAfter_ne_empty u n (h.boost.2 m)⟩
      shortfall := ?_
      capacity := length_boostAfter_le u n h.boost.1 h.capacity }
    show Table.canonical (u.shortfallAfter n) = true
    unfold State.shortfallAfter
    split
    · exact Table.canonical_store n () h.shortfall
    · exact Table.canonical_discard n h.shortfall
  lose n u h := { h with
    select := h.select.hold n .off
    boost := h.boost.discard n
    capacity := (Table.length_discard_le _ n).trans h.capacity }
  regain n x u _ h := by
    rw [regainChannel_eq]
    exact { h with
      select := h.select.hold n x
      boost := ⟨Layout.canonical_unboosted h.boost.1, fun m => Layout.fetch_unboosted_ne_empty (h.boost.2 m)⟩
      shortfall := Table.canonical_discard n h.shortfall
      capacity := (Layout.length_unboosted_le h.boost.1).trans h.capacity }
  swap n x u _ h := { h with select := h.select.hold n x }

theorem takeRound_planSound (a b : List Nat) {s : State} (h : s.plan.Sound) : (takeRound a b s).plan.Sound := by
  have hend := roundKeeps_planSound.roundEnd a b h
  exact { hend with edited := IndexSet.canonical_addAll _ hend.edited }

/-- What O55 says of the live tables. -/
structure Scan.Sound (c : Scan) : Prop where
  select : Table.Listed .a c.liveSelect
  boost : Table.Listed BoostEntry.empty c.liveBoost

theorem Scan.Sound.of_eq {c d : Scan} (h : c.Sound) (hselect : d.liveSelect = c.liveSelect)
    (hboost : d.liveBoost = c.liveBoost) : d.Sound := ⟨by rw [hselect]; exact h.select, by rw [hboost]; exact h.boost⟩

theorem copyChannels_sound {p : Plan} {c : Scan} (hp : p.Sound) (hc : c.Sound) (ks : List Nat) :
    (ks.foldl (copyChannel p) c).Sound := by
  induction ks generalizing c with
  | nil => exact hc
  | cons n ks ih => exact ih ⟨hc.select.hold n _, hc.boost.assign n (hp.boost.2 n)⟩

/-- What O55 says of the plan, the live tables and the Transition Queue. -/
structure TablesSound (s : State) : Prop where
  plan : s.plan.Sound
  scan : s.scan.Sound
  queue : s.map.queue.length ≤ 64

theorem appendTransition_queue_length {s : State} (x : Transition) (h : s.map.queue.length ≤ 64) :
    (appendTransition x s).map.queue.length ≤ 64 := by
  have hcapacity : Config.transitionCapacity = 64 := rfl
  unfold appendTransition
  dsimp only
  split
  · next hroom =>
    have hlength : (s.map.queue ++ [x]).length ≤ 64 := by rw [List.length_append, List.length_singleton]; omega
    split <;> exact hlength
  · next hfull =>
    have hlength : (s.map.queue.drop 1 ++ [x]).length ≤ 64 := by
      rw [List.length_append, List.length_drop, List.length_singleton]; omega
    exact hlength

theorem planInvariant_tablesSound : PlanInvariant TablesSound where
  same h hs := ⟨by rw [h.plan]; exact hs.plan, hs.scan.of_eq h.liveSelect h.liveBoost, by rw [h.queue]; exact hs.queue⟩
  log x s hs := by
    obtain ⟨hplan, hscan, -⟩ := appendTransition_samePlan x s
    exact ⟨by rw [hplan]; exact hs.plan, by rw [hscan]; exact hs.scan, appendTransition_queue_length x hs.queue⟩
  takeOldest k s hs := ⟨hs.plan, hs.scan, by
    have hlength : (s.map.queue.drop k).length ≤ s.map.queue.length := by rw [List.length_drop]; omega
    exact hlength.trans hs.queue⟩
  round a b s hs :=
    ⟨takeRound_planSound a b hs.plan, by rw [takeRound_scan]; exact hs.scan, by rw [takeRound_map]; exact hs.queue⟩
  resolve hs := ⟨{ hs.plan with deferred := rfl }, hs.scan, hs.queue⟩
  copy hs := ⟨{ hs.plan with edited := rfl }, copyChannels_sound hs.plan hs.scan _, hs.queue⟩
  cut n s hs := by
    refine ⟨?_, ?_, by rw [(cutChannel_acts n s).only.map]; exact hs.queue⟩
    · rw [cutChannel_plan]
      exact { hs.plan with
        select := hs.plan.select.hold n .off
        boost := hs.plan.boost.discard n
        capacity := (Table.length_discard_le _ n).trans hs.plan.capacity }
    · rw [cutChannel_scan]
      exact ⟨hs.scan.select.hold n .off, hs.scan.boost.discard n⟩
  cleared hplan hselect hboost hqueue _ _ :=
    ⟨by rw [hplan]; exact Plan.sound_clear, ⟨by rw [hselect]; exact .nil _, by rw [hboost]; exact .nil _⟩,
      by rw [hqueue]; exact Nat.zero_le _⟩
  setParams _ _ hs := ⟨hs.plan, hs.scan, hs.queue⟩

/-- The tables, with the live Boost Table within its capacity. -/
structure LiveTablesSound (s : State) : Prop where
  tables : TablesSound s
  live : LiveFollowsPlan s
  capacity : LiveWithinCapacity s

theorem planInvariant_liveTablesSound : PlanInvariant LiveTablesSound where
  same h hs := {
    tables := planInvariant_tablesSound.same h hs.tables
    live := planInvariant_liveFollowsPlan.same h hs.live
    capacity := by unfold LiveWithinCapacity; rw [h.liveBoost]; exact hs.capacity }
  log x s hs := {
    tables := planInvariant_tablesSound.log x hs.tables
    live := planInvariant_liveFollowsPlan.log x hs.live
    capacity := by unfold LiveWithinCapacity; rw [(appendTransition_samePlan x s).2.1]; exact hs.capacity }
  takeOldest k _ hs := ⟨planInvariant_tablesSound.takeOldest k hs.tables, hs.live, hs.capacity⟩
  round a b s hs := {
    tables := planInvariant_tablesSound.round a b hs.tables
    live := planInvariant_liveFollowsPlan.round a b hs.live
    capacity := by unfold LiveWithinCapacity; rw [takeRound_scan]; exact hs.capacity }
  resolve hs := ⟨planInvariant_tablesSound.resolve hs.tables, hs.live, hs.capacity⟩
  copy hs := by
    have htables := planInvariant_tablesSound.copy hs.tables
    refine ⟨htables, planInvariant_liveFollowsPlan.copy hs.live, ?_⟩
    refine (Table.length_le_of_listed htables.scan.boost.1 fun k hk => ?_).trans hs.tables.plan.capacity
    rw [show Table.fetch _ k = _ from (hs.live.copied k).2] at hk
    exact hk
  cut n s hs := {
    tables := planInvariant_tablesSound.cut n hs.tables
    live := planInvariant_liveFollowsPlan.cut n hs.live
    capacity := by
      unfold LiveWithinCapacity
      rw [cutChannel_scan]
      exact (Table.length_discard_le _ n).trans hs.capacity }
  cleared hplan hselect hboost hqueue hparams hs := {
    tables := planInvariant_tablesSound.cleared hplan hselect hboost hqueue hparams hs.tables
    live := planInvariant_liveFollowsPlan.cleared hplan hselect hboost hqueue hparams hs.live
    capacity := by unfold LiveWithinCapacity; rw [hboost]; exact Nat.zero_le _ }
  setParams p _ hs := ⟨planInvariant_tablesSound.setParams p hs.tables, hs.live, hs.capacity⟩

/-! ## The rows -/

/-- Every row's slots are sound. -/
def RowsSound (s : State) : Prop := ∀ r ∈ s.store, r.Sound

theorem rowsSound_black {s : State} {n : Nat} (h : s.store = List.replicate n Row.black) : RowsSound s := by
  intro r hr
  rw [h] at hr
  rw [List.eq_of_mem_replicate hr]
  exact Row.sound_black

theorem restartAll_store (s : State) : (restartAll s).store = List.replicate s.layout.height Row.black := by
  have hblocks : (restartBlocks s).store = List.replicate s.layout.height Row.black := by
    unfold restartBlocks
    rw [restartSense_eq, (abortLong_acts _).only.store]
    rfl
  rw [restartAll_eq]
  exact (restartRound_acts _ _).only.store.trans hblocks

theorem commands_keepRows {s : State} (hs : RowsSound s) : CommandsKeep RowsSound s := by
  have hkept : ∀ {t}, RowsKept s t → RowsSound t := fun h => h.sound hs
  have hsame : ∀ {t}, t.store = s.store → RowsSound t := fun h => hkept (.of_eq h)
  exact {
    control := fun _ _ h => h
    idle := hs
    powerOn := fun t h => by obtain rfl := Host.Outcome.next.inj h; exact fun _ h => absurd h List.not_mem_nil
    character := fun ch b => hsame (takeCharacter_acts ch b s).only.store
    setLayout := fun p => by
      unfold actSetLayout
      split
      · exact hs
      · split
        · exact hs
        · exact rowsSound_black (n := (acceptLayout p s).layout.height) rfl
    setParams := fun p => hsame (actSetParams_acts p s).only.store
    survey := fun p => hsame (actSurvey_acts p s).only.store
    retest := fun p => hsame (actRetest_acts p s).only.store
    halt := fun p => hsame (actHalt_acts p s).only.store
    pin := fun p => hsame (actPin_acts p s).only.store
    unpin := fun p => hsame (actUnpin_acts p s).only.store
    restore := fun p => hsame (actRestore_acts p s).only.store
    readTransitions := fun p => hsame (actReadTransitions_acts p s).only.store
    armCapture := fun p => hsame (actArmCapture_acts p s).only.store
    disarm := fun p => hsame (actDisarm_acts p s).only.store
    releaseHold := fun p => hsame (actReleaseHold_acts p s).only.store
    standby := fun p => hsame (actStandby_acts p s).only.store
    wake := fun p => by
      unfold actWake
      split
      · exact hs
      · exact hkept (wakeDisplay_rows s)
    restart := rowsSound_black (restartAll_store s)
    readEvents := fun p => hsame (actReadEvents_only p s).store
    setMask := fun p => hsame (actSetMask_only p s).store
    readCounters := fun p => hsame (actReadCounters_acts p s).only.store
    linkByte := fun b => hkept (takeLinkByte_rows b s)
    lossOfSignal := hkept (takeLossOfSignal_rows s)
    lightRow := hsame (lightRow_acts s).only.store
    passEnd := hkept (endPass_rows s)
    gapEnd := hkept (endGap_rows s)
    answer := fun x o hot => hsame (takeAnswer_acts x o hot s).only.store
    liveShort := fun d => hsame (liveShort_acts d s).only.store }

/-! ## The display -/

/-- Going from `s` to `t` the engine is as it was, or it woke from STANDBY owing no reply (R60). -/
inductive WakesAtMost (s t : State) : Prop where
  | kept (h : t.scan = s.scan)
  | woken (hdisplay : s.scan.display = .standby) (hset : s.layout.status = .set) (hwaking : t.scan.display = .waking)
      (hphase : t.scan.phase = .pass) (howed : t.scan.standby ≠ .requestedOwed)

namespace WakesAtMost

variable {s t u : State}

theorem andSame (h : WakesAtMost s t) (hscan : u.scan = t.scan := by rfl) : WakesAtMost s u := by
  cases h with
  | kept h => exact .kept (hscan.trans h)
  | woken hdisplay hset hwaking hphase howed =>
    exact .woken hdisplay hset (by rw [hscan]; exact hwaking) (by rw [hscan]; exact hphase) (by rw [hscan]; exact howed)

theorem afterSame (h : WakesAtMost t u) (hscan : t.scan = s.scan := by rfl) (hlayout : t.layout = s.layout := by rfl) :
    WakesAtMost s u := by
  cases h with
  | kept h => exact .kept (h.trans hscan)
  | woken hdisplay hset hwaking hphase howed =>
    exact .woken (hscan ▸ hdisplay) (hlayout ▸ hset) hwaking hphase howed

end WakesAtMost

section LinkWakes
variable (s : State)

theorem wakeDisplay_wakes : WakesAtMost s (wakeDisplay s) := by
  by_cases h : s.scan.display = .standby ∧ s.layout.status = .set
  · obtain ⟨hdisplay, hset⟩ := h
    rw [wakeDisplay_of_asleep hdisplay hset]
    refine .woken hdisplay hset ?_ ?_ ?_
    · rw [passStart_scan]; rfl
    · rw [passStart_scan]; rfl
    · exact mt (passStart_standby_owed _).mp StandbyWaiting.noConfusion
  · rw [wakeDisplay_of_not h]
    exact .kept rfl

theorem cutIfRows_scan : (if s.input.state = .rows then cutFrame s else s).scan = s.scan := by
  split
  · exact (cutFrame_acts s).only.scan
  · rfl

theorem symbolError_scan : (symbolError s).scan = s.scan := cutIfRows_scan (count .symbolErrors s)

theorem linkSync_scan : (linkSync s).scan = s.scan := cutIfRows_scan s

theorem cutIfRows_layout : (if s.input.state = .rows then cutFrame s else s).layout = s.layout := by
  split
  · exact (cutFrame_acts s).only.layout
  · rfl

theorem settleSequence_only (q : BitVec 16) : OnlyChanges [.input, .events] s (settleSequence q s) := by
  have hinput : ∀ (u : State) (x : Receiver), OnlyChanges [.input, .events] u (u.setInput x) := fun u x =>
    (setInput_acts u x).only.mono (by decide)
  unfold settleSequence
  dsimp only
  split
  · exact ((count_acts .seqGaps s).only.mono (by decide)).trans (hinput _ _)
  · exact hinput s _

theorem judgeHeader_wakes (h : List Byte) : WakesAtMost s (judgeHeader h s) := by
  have hsleeping : ∀ a b u, WakesAtMost u (headerInStandby a b u) := by
    intro a b u
    unfold headerInStandby
    dsimp only
    split
    · exact (wakeDisplay_wakes _).afterSame
    · exact .kept rfl
  unfold judgeHeader
  dsimp only
  split
  · exact .kept rfl
  · split
    · exact .kept rfl
    · have hsettled := settleSequence_only s (BitVec.ofNat 16 (numberAt h 0 2))
      split
      · exact (hsleeping _ _ _).afterSame hsettled.scan hsettled.layout
      · exact .kept hsettled.scan

theorem rowsData_scan (b : Byte) : (rowsData b s).scan = s.scan := by
  have hrow : ∀ (c : Bool) (y : Nat) (f : Row → Row) (u : State), (if c then updateRow y f u else u).scan = u.scan := by
    intro c y f u
    cases c <;> rfl
  unfold rowsData
  split
  · unfold blockIndex
    dsimp only
    split
    · split <;> rfl
    · rfl
  · exact hrow _ _ _ _
  · unfold blockCheck
    dsimp only
    rw [hrow]
    split <;> rfl

theorem linkData_wakes (b : Byte) : WakesAtMost s (linkData b s) := by
  unfold linkData
  split
  · exact .kept (rowsData_scan s b)
  · unfold headerData
    dsimp only
    split
    · exact (judgeHeader_wakes _ _).afterSame
    · exact .kept rfl

theorem sortByte_wakes (b : Byte) : WakesAtMost s (sortByte b s) := by
  unfold sortByte
  split
  · exact .kept rfl
  · split
    · unfold completeEscape
      dsimp only
      split
      · exact (linkData_wakes _ _).afterSame
      · split
        · exact .kept ((linkSync_scan _).trans (symbolError_scan _))
        · exact .kept (symbolError_scan _)
    · split
      · exact .kept rfl
      · split
        · exact .kept (linkSync_scan s)
        · split
          · unfold linkEndSymbol
            split
            · exact .kept (closeFrame_acts s).only.scan
            · exact .kept (symbolError_scan s)
          · exact linkData_wakes s b

theorem takeLinkByte_wakes (b : Byte) : WakesAtMost s (takeLinkByte b s) := by
  have hsync : WakesAtMost s (if b = linkS1 then linkSync s else s) := by
    split
    · exact .kept (linkSync_scan s)
    · exact .kept rfl
  unfold takeLinkByte
  split
  · exact hsync
  · unfold syncByte
    split
    · exact .kept rfl
    · split <;> exact .kept rfl
  · exact sortByte_wakes s b
  · exact sortByte_wakes s b
  · exact hsync
  · unfold gapByte
    split
    · exact .kept rfl
    · split
      · exact .kept (linkSync_scan s)
      · exact .kept (symbolError_scan s)

end LinkWakes

/-- The engine's items that `DisplayConsistent` speaks of are as they were. -/
structure DisplayKept (c d : Scan) : Prop where
  display : d.display = c.display
  phase : d.phase = c.phase
  standby : d.standby = c.standby
  wakingLeft : d.wakingLeft = c.wakingLeft

theorem DisplayKept.of_eq {c d : Scan} (h : d = c) : DisplayKept c d := by subst h; exact ⟨rfl, rfl, rfl, rfl⟩

theorem DisplayConsistent.of_kept {s t : State} (hs : DisplayConsistent s) (hscan : DisplayKept s.scan t.scan)
    (hlayout : t.layout = s.layout) (hgap : t.gapDies = s.gapDies) : DisplayConsistent t := by
  have hempty : t.sense.gap ≠ [] ↔ s.sense.gap ≠ [] := by
    rw [ne_eq, ne_eq, ← List.map_eq_nil_iff (f := GapEntry.die), ← List.map_eq_nil_iff (f := GapEntry.die) (l := s.sense.gap)]
    exact not_congr (Eq.congr_left hgap)
  unfold DisplayConsistent
  rw [hscan.display, hscan.phase, hscan.standby, hscan.wakingLeft, hlayout, hempty]
  exact hs

theorem DisplayConsistent.gap_empty {s : State} (h : DisplayConsistent s)
    (hout : s.scan.display ≠ .active ∨ s.scan.phase ≠ .gap) : s.sense.gap = [] := by
  obtain ⟨-, -, -, htests⟩ := h
  by_contra hgap
  obtain ⟨hdisplay, hphase⟩ := htests hgap
  exact hout.elim (fun h => h hdisplay) fun h => h hphase

/-- The engine asleep, with no test out. -/
theorem DisplayConsistent.of_asleep {s : State} (hdisplay : s.scan.display = .standby) (hphase : s.scan.phase = .none)
    (hstandby : s.scan.standby = .none) (hwaking : s.scan.wakingLeft = 0) (hgap : s.sense.gap = []) :
    DisplayConsistent s :=
  ⟨fun h => absurd hdisplay h, iff_of_true hdisplay hphase, fun _ => ⟨hstandby, hwaking⟩, fun h => absurd hgap h⟩

/-- The engine awake, with no test out. -/
theorem DisplayConsistent.of_awake {s : State} (hset : s.layout.status = .set) (hdisplay : s.scan.display ≠ .standby)
    (hphase : s.scan.phase ≠ .none) (hgap : s.sense.gap = []) : DisplayConsistent s :=
  ⟨fun _ => hset, iff_of_false hdisplay hphase, fun h => absurd h hdisplay, fun h => absurd hgap h⟩

theorem WakesAtMost.displayConsistent {s t : State} (h : WakesAtMost s t) (hs : DisplayConsistent s)
    (hlayout : t.layout = s.layout) (hgap : t.sense = s.sense) : DisplayConsistent t := by
  cases h with
  | kept h => exact hs.of_kept (.of_eq h) hlayout (by unfold State.gapDies; rw [hgap])
  | woken hdisplay hset hwaking hphase _ =>
    have hempty : s.sense.gap = [] := hs.gap_empty (Or.inl (by rw [hdisplay]; exact Display.noConfusion))
    exact .of_awake (by rw [hlayout]; exact hset) (by rw [hwaking]; exact Display.noConfusion)
      (by rw [hphase]; exact Phase.noConfusion) (by rw [hgap]; exact hempty)

section Passes
variable {s : State}

theorem lightRow_displayKept : DisplayKept s.scan (lightRow s).scan := by
  have hclip : ∀ y, DisplayKept s.scan (markClip y s).scan := by
    intro y
    unfold markClip
    split <;> exact ⟨rfl, rfl, rfl, rfl⟩
  unfold lightRow
  dsimp only
  split
  · obtain ⟨hdisplay, hphase, hstandby, hwaking⟩ := hclip s.scan.rowsLit
    exact ⟨hdisplay, hphase, hstandby, hwaking⟩
  · exact .of_eq rfl

theorem liveShort_scan (d : Nat) (s : State) : (liveShort d s).scan = s.scan ∨
    (liveShort d s).scan = (cutChannel (dieChannel d) s).scan := by
  unfold liveShort
  split
  · exact Or.inl rfl
  · split
    · exact Or.inl rfl
    · split
      · exact Or.inl rfl
      · exact Or.inr ((cutRound_acts _ _).only.scan.trans (observe_acts d .shorted _).only.scan)

theorem liveShort_displayKept (d : Nat) : DisplayKept s.scan (liveShort d s).scan := by
  obtain hsame | hcut := liveShort_scan d s
  · exact .of_eq hsame
  · rw [hcut, cutChannel_scan]
    exact ⟨rfl, rfl, rfl, rfl⟩

theorem fallAsleep_scan (s : State) : (fallAsleep s).scan = s.scan.asleep := by
  have hcut : (cutForStandby (s.setScan s.scan.asleep)).scan = s.scan.asleep := (cutForStandby_acts _).only.scan
  unfold fallAsleep
  dsimp only
  split
  · exact ((raise_acts _ _).only.scan.trans (stopLong_acts _ _).only.scan).trans hcut
  · exact hcut

theorem enterStandby_scan (s : State) : (enterStandby s).scan = s.scan.asleep := by
  unfold enterStandby
  dsimp only
  split
  · exact (payOwedReply_acts _).only.scan.trans (fallAsleep_scan s)
  · exact fallAsleep_scan s

theorem enterStandby_displayConsistent (hs : DisplayConsistent s) (hphase : s.scan.phase = .pass) :
    DisplayConsistent (enterStandby s) := by
  have hempty : s.gapDies = [] := by
    rw [State.gapDies, hs.gap_empty (Or.inr (by rw [hphase]; exact Phase.noConfusion))]; rfl
  have hgap : (enterStandby s).sense.gap = [] := List.map_eq_nil_iff.mp ((enterStandby_tells s).gapDies.trans hempty)
  have hscan := enterStandby_scan s
  exact .of_asleep (by rw [hscan]; rfl) (by rw [hscan]; rfl) (by rw [hscan]; rfl) (by rw [hscan]; rfl) hgap

theorem enterGap_scan (s : State) : (enterGap s).scan = { s.scan with phase := .gap, ports := silentPorts } := by
  unfold enterGap
  dsimp only
  split
  · exact (gapStart_acts _).only.scan
  · rfl

theorem enterGap_displayConsistent (hs : DisplayConsistent s) (hphase : s.scan.phase = .pass) :
    DisplayConsistent (enterGap s) := by
  have hgap := hs.gap_empty (Or.inr (by rw [hphase]; exact Phase.noConfusion))
  obtain ⟨hset, hstandby, -, -⟩ := hs
  have hawake : s.scan.display ≠ .standby := fun h => by
    rw [hstandby.mp h] at hphase; exact Phase.noConfusion hphase
  have hscan := enterGap_scan s
  have hlayout : (enterGap s).layout = s.layout := (enterGap_acts s).only.layout
  refine ⟨fun _ => by rw [hlayout]; exact hset hawake, ?_, fun h => ?_, fun hout => ?_⟩
  · rw [hscan]; exact iff_of_false hawake Phase.noConfusion
  · rw [hscan] at h; exact absurd h hawake
  · rw [hscan]
    refine ⟨?_, rfl⟩
    by_contra hwaking
    refine hout ?_
    unfold enterGap
    dsimp only
    rw [if_neg (show ¬ (s.setScan { s.scan with phase := .gap, ports := silentPorts }).scan.display = .active from hwaking)]
    exact hgap

theorem endPass_displayConsistent (hs : DisplayConsistent s) : DisplayConsistent (endPass s) := by
  unfold endPass
  split
  · next hend =>
    split
    · exact enterStandby_displayConsistent hs hend.1
    · exact enterGap_displayConsistent hs hend.1
  · exact hs

theorem senseGapEnd_gap (s : State) : (senseGapEnd s).sense.gap = [] := rfl

theorem wokenCheck_scan (s : State) : (wokenCheck s).scan =
    { s.scan with display := if s.scan.display = .waking ∧ s.scan.wakingLeft = 0 then .active else s.scan.display } := by
  unfold wokenCheck
  split <;> rfl

theorem wokenCheck_sense : (wokenCheck s).sense = s.sense := by
  unfold wokenCheck
  split <;> rfl

theorem wokenCheck_display_ne (h : s.scan.display ≠ .standby) : (wokenCheck s).scan.display ≠ .standby := by
  rw [wokenCheck_scan]
  dsimp only
  split
  · exact Display.noConfusion
  · exact h

/-- The Sense Unit's part of a gap end leaves the engine as it is. -/
theorem senseGapEnd_if_scan (s : State) : (if s.scan.display = .active then senseGapEnd s else s).scan = s.scan := by
  split
  · exact (senseGapEnd_acts s).only.scan
  · rfl

theorem endGap_displayConsistent (hs : DisplayConsistent s) : DisplayConsistent (endGap s) := by
  by_cases hphase : s.scan.phase = .gap
  · have hlayout : (endGap s).layout = s.layout := (endGap_acts s).only.layout
    have hout := hs.gap_empty
    obtain ⟨hset, hstandby, -, -⟩ := hs
    have hawake : s.scan.display ≠ .standby := fun h => by
      rw [hstandby.mp h] at hphase; exact Phase.noConfusion hphase
    have hgap : (if s.scan.display = .active then senseGapEnd s else s).sense.gap = [] := by
      split
      · exact senseGapEnd_gap s
      · next hwaking => exact hout (Or.inl hwaking)
    refine .of_awake (by rw [hlayout]; exact hset hawake) ?_ ?_ ?_ <;> unfold endGap <;> rw [if_pos hphase]
    · rw [passStart_scan]
      exact wokenCheck_display_ne (by rw [senseGapEnd_if_scan]; exact hawake)
    · rw [passStart_scan]; exact Phase.noConfusion
    · rw [(passStart_acts _).only.sense, wokenCheck_sense]
      exact hgap
  · unfold endGap
    rw [if_neg hphase]
    exact hs

theorem restartAll_scan (s : State) : (restartAll s).scan = s.scan.restarted := by
  have hblocks : (restartBlocks s).scan = s.scan.restarted := by
    unfold restartBlocks
    rw [restartSense_eq, (abortLong_acts _).only.scan]
    rfl
  rw [restartAll_eq]
  exact (restartRound_acts _ _).only.scan.trans hblocks

end Passes

theorem commands_keepDisplay {s : State} (hs : DisplayConsistent s) : CommandsKeep DisplayConsistent s := by
  have hsame : ∀ {t}, t.scan = s.scan → t.layout = s.layout → t.gapDies = s.gapDies → DisplayConsistent t :=
    fun hscan => hs.of_kept (.of_eq hscan)
  have htells : ∀ {t}, t.scan = s.scan → t.layout = s.layout → TellsLong s t → DisplayConsistent t :=
    fun hscan hlayout h => hsame hscan hlayout h.gapDies
  have hother : ∀ {bs : List Block} {t}, OnlyChanges bs s t →
      (Block.scan ∉ bs ∧ Block.layout ∉ bs ∧ Block.sense ∉ bs) → DisplayConsistent t := by
    rintro bs t h ⟨hscan, hlayout, hsense⟩
    exact htells (h .scan hscan) (h .layout hlayout) (.of_eq (h .sense hsense))
  have hdie : ∀ {t}, Acts dieBlocks s t → TellsLong s t → DisplayConsistent t :=
    fun h => htells h.only.scan h.only.layout
  exact {
    control := fun _ _ h => h
    idle := hs
    powerOn := fun t h => by obtain rfl := Host.Outcome.next.inj h; exact .of_asleep rfl rfl rfl rfl rfl
    character := fun ch b => hother (takeCharacter_acts ch b s).only (by decide)
    setLayout := fun p => by
      unfold actSetLayout
      split
      · exact hs
      · next hdisplay =>
        split
        · exact hs
        · have hgap : s.sense.gap = [] := hs.gap_empty (Or.inl fun h => hdisplay (by rw [h]; exact Display.noConfusion))
          obtain ⟨-, hphase, hstandby, -⟩ := hs
          have hasleep : s.scan.display = .standby := not_not.mp hdisplay
          exact .of_asleep (s := acceptLayout p s) hasleep (hphase.mp hasleep) (hstandby hasleep).1 (hstandby hasleep).2 hgap
    setParams := fun p => hother (actSetParams_acts p s).only (by decide)
    survey := fun p => htells (actSurvey_acts p s).only.scan (actSurvey_acts p s).only.layout (actSurvey_tells p s)
    retest := fun p => hdie (actRetest_acts p s) (actRetest_tells p s)
    halt := fun p => hdie (actHalt_acts p s) (actHalt_tells p s)
    pin := fun p => hdie (actPin_acts p s) (actPin_tells p s)
    unpin := fun p => hdie (actUnpin_acts p s) (actUnpin_tells p s)
    restore := fun p => hdie (actRestore_acts p s) (actRestore_tells p s)
    readTransitions := fun p => hother (actReadTransitions_acts p s).only (by decide)
    armCapture := fun p => hother (actArmCapture_acts p s).only (by decide)
    disarm := fun p => hother (actDisarm_acts p s).only (by decide)
    releaseHold := fun p => hother (actReleaseHold_acts p s).only (by decide)
    standby := fun p => by
      unfold actStandby
      split
      · exact hs
      · next hdisplay =>
        obtain ⟨hset, hphase, -, htests⟩ := hs
        exact ⟨hset, hphase, fun h => absurd h hdisplay, htests⟩
    wake := fun p => by
      unfold actWake
      split
      · exact hs
      · exact (wakeDisplay_wakes s).displayConsistent hs (wakeDisplay_acts s).only.layout (wakeDisplay_acts s).only.sense
    restart := by
      have hscan := restartAll_scan s
      exact .of_asleep (by rw [hscan]; rfl) (by rw [hscan]; rfl) (by rw [hscan]; rfl) (by rw [hscan]; rfl)
        (restartAll_sense_gap s).1
    readEvents := fun p => hother (actReadEvents_only p s) (by decide)
    setMask := fun p => hother (actSetMask_only p s) (by decide)
    readCounters := fun p => hother (actReadCounters_acts p s).only (by decide)
    linkByte := fun b =>
      (takeLinkByte_wakes s b).displayConsistent hs (takeLinkByte_acts b s).only.layout (takeLinkByte_acts b s).only.sense
    lossOfSignal := hother (takeLossOfSignal_acts s).only (by decide)
    lightRow := hs.of_kept lightRow_displayKept (lightRow_acts s).only.layout
      (by unfold State.gapDies; rw [(lightRow_acts s).only.sense])
    passEnd := endPass_displayConsistent hs
    gapEnd := endGap_displayConsistent hs
    answer := fun x o hot => hsame (takeAnswer_acts x o hot s).only.scan (takeAnswer_acts x o hot s).only.layout
      (takeAnswer_testsKept x o hot s).dies
    liveShort := fun d => hs.of_kept (liveShort_displayKept d) (liveShort_acts d s).only.layout (liveShort_tells d s).gapDies }

/-! ## The Control Port -/

/-- What O55 says of the Control Port. -/
structure PortSound (s : State) : Prop where
  queue : s.control.queue.length ≤ 4
  replies : s.control.replies.length ≤ 4
  content : s.control.content.length ≤ 63
  hand : HandConsistent s

section Port
variable {s t : State}

theorem PortSound.of_same (hs : PortSound s) (hcontrol : t.control = s.control)
    (howed : t.scan.standby = .requestedOwed ↔ s.scan.standby = .requestedOwed) : PortSound t := by
  refine ⟨by rw [hcontrol]; exact hs.queue, by rw [hcontrol]; exact hs.replies, by rw [hcontrol]; exact hs.content, ?_⟩
  unfold HandConsistent
  rw [hcontrol, howed]
  exact hs.hand

theorem PortSound.of_only {bs : List Block} (hs : PortSound s) (h : OnlyChanges bs s t)
    (hbs : Block.control ∉ bs ∧ Block.scan ∉ bs := by decide) : PortSound t :=
  hs.of_same (h .control hbs.1) (by rw [h .scan hbs.2])

/-- A formed reply, where there was room for it and no STANDBY is owed one any longer. -/
theorem PortSound.formReply (hs : PortSound s) (hroom : s.control.replies.length < 4) (hcontrol : t.control = s.control)
    (howed : t.scan.standby ≠ .requestedOwed) (m : Message) (st : Status) (data : List Byte) :
    PortSound (formReply m st data t) := by
  have hqueue : s.control.queue.tail.length ≤ 4 := by
    have := hs.queue
    rw [List.length_tail]
    omega
  have hreplies : (s.control.replies ++ [replyTo m st data]).length ≤ 4 := by
    rw [List.length_append, List.length_singleton]; omega
  refine ⟨?_, ?_, ?_, iff_of_false Bool.false_ne_true howed, fun h => absurd h Bool.false_ne_true⟩
  · rw [← hcontrol] at hqueue; exact hqueue
  · rw [← hcontrol] at hreplies; exact hreplies
  · have hcontent := hs.content
    rw [← hcontrol] at hcontent; exact hcontent

theorem PortSound.not_owed (hs : PortSound s) (hhand : s.control.inHand = false) : s.scan.standby ≠ .requestedOwed :=
  fun howed => absurd (hs.hand.1.mpr howed) (by rw [hhand]; exact Bool.false_ne_true)

/-- A hand-on to an action that answers at once and makes no STANDBY request. -/
theorem PortSound.handOn (hs : PortSound s) {act : List Byte → State → State × Answer} (hact : AnswersAtOnce act)
    (hcontrol : ∀ p, (act p s).1.control = s.control)
    (howed : ∀ p, s.scan.standby ≠ .requestedOwed → (act p s).1.scan.standby ≠ .requestedOwed) (kind : Byte) :
    PortSound (handOn kind act s) := by
  unfold Machine.handOn
  split
  · exact hs
  · next m hm =>
    obtain ⟨hhand, hroom, -⟩ := handable_eq_some_iff.mp hm
    have hnot := hs.not_owed hhand
    split
    · split
      · unfold settleAnswer
        split
        · exact hs.formReply hroom (hcontrol _) (howed _ hnot) _ _ _
        · exact hs.formReply hroom (hcontrol _) (howed _ hnot) _ _ _
        · next h => exact absurd h (hact m.payload s).1
      · exact hs.formReply hroom rfl hnot _ _ _
    · exact hs

theorem PortSound.handOn_of_acts (hs : PortSound s) {act : List Byte → State → State × Answer} (hact : AnswersAtOnce act)
    {bs : List Block} (h : ∀ p, OnlyChanges bs s (act p s).1) (kind : Byte)
    (hbs : Block.control ∉ bs ∧ Block.scan ∉ bs := by decide) : PortSound (Machine.handOn kind act s) :=
  hs.handOn hact (fun p => h p .control hbs.1) (fun p hnot => by rw [h p .scan hbs.2]; exact hnot) kind

theorem PortSound.handOn_of_answers (hs : PortSound s) {act : List Byte → State → State × Answer}
    (hact : AnswersAtOnce act) (h : OnlyAnswers act) (kind : Byte) : PortSound (Machine.handOn kind act s) :=
  hs.handOn_of_acts (bs := []) hact (fun p => by rw [h p s]; exact OnlyChanges.refl _ s) kind

theorem PortSound.handOnStandby (hs : PortSound s) : PortSound (Machine.handOn 0x30 actStandby s) := by
  unfold Machine.handOn
  split
  · exact hs
  · next m hm =>
    obtain ⟨hhand, hroom, hhead⟩ := handable_eq_some_iff.mp hm
    have hnot := hs.not_owed hhand
    split
    · split
      · unfold actStandby
        split
        · exact hs.formReply hroom rfl hnot _ _ _
        · refine ⟨hs.queue, hs.replies, hs.content, iff_of_true rfl rfl, fun _ => ⟨fun hnil => ?_, hroom⟩⟩
          rw [show s.control.queue = [] from hnil] at hhead
          exact absurd hhead (by simp)
      · exact hs.formReply hroom rfl hnot _ _ _
    · exact hs

theorem PortSound.handOnUnknown (hs : PortSound s) : PortSound (Machine.handOnUnknown s) := by
  unfold Machine.handOnUnknown
  split
  · exact hs
  · next m hm =>
    obtain ⟨hhand, hroom, -⟩ := handable_eq_some_iff.mp hm
    split
    · exact hs.formReply hroom rfl (hs.not_owed hhand) _ _ _
    · exact hs

theorem PortSound.sendReply (hs : PortSound s) : PortSound (Machine.sendReply s) := by
  unfold Machine.sendReply
  split
  · exact hs
  · next r rest hreplies =>
    have hlength := hs.replies
    have hhand := hs.hand
    unfold HandConsistent at hhand
    rw [hreplies, List.length_cons] at hlength hhand
    obtain ⟨howed, hroom⟩ := hhand
    refine ⟨hs.queue, ?_, hs.content, howed, fun h => ⟨(hroom h).1, ?_⟩⟩
    · show rest.length ≤ 4
      omega
    · show rest.length < 4
      have := (hroom h).2
      omega

/-- Replacing the framing items by a content of at most 63 bytes. -/
theorem PortSound.setFraming (hs : PortSound s) (f : Framing) (e : Bool) {c : List Byte} (hc : c.length ≤ 63) :
    PortSound (Machine.setFraming f e c s) := ⟨hs.queue, hs.replies, hc, hs.hand⟩

theorem PortSound.badFrame (hs : PortSound s) (f : Framing) : PortSound (Machine.badFrame f s) :=
  (hs.setFraming f false (Nat.zero_le _)).of_only (count_acts .ctlBadFrame _).only

theorem PortSound.appendContent (hs : PortSound s) (b : Byte) : PortSound (Machine.appendContent b s) := by
  unfold Machine.appendContent
  split
  · exact hs.setFraming _ _ (by rw [List.length_append, List.length_singleton]; omega)
  · exact hs.badFrame _

theorem PortSound.offerMessage (hs : PortSound s) (m : Message) : PortSound (Machine.offerMessage m s) := by
  have hcapacity : Config.messageCapacity = 4 := rfl
  unfold Machine.offerMessage
  split
  · next hroom =>
    refine ⟨?_, hs.replies, hs.content, hs.hand.1, fun h => ⟨by simp, (hs.hand.2 h).2⟩⟩
    show (s.control.queue ++ [m]).length ≤ 4
    rw [List.length_append, List.length_singleton]
    omega
  · exact hs.of_only ((count_acts .ctlOverrun s).trans (raise_acts .queueOverflow _)).only

theorem PortSound.takeCharacter (hs : PortSound s) (ch : Byte) (b : Bool) : PortSound (Machine.takeCharacter ch b s) := by
  unfold Machine.takeCharacter
  split
  · split
    · exact hs.setFraming _ _ (Nat.zero_le _)
    · exact hs
  · split
    · unfold assembleCharacter
      split
      · split
        · exact hs.appendContent _
        · exact hs.badFrame _
      · split
        · split
          · exact hs.setFraming _ _ (Nat.zero_le _)
          · exact hs.badFrame _
        · split
          · unfold completeMessage
            dsimp only
            split
            · exact hs.badFrame _
            · exact (hs.setFraming _ _ (Nat.zero_le _)).offerMessage _
          · split
            · exact hs.setFraming _ _ hs.content
            · exact hs.appendContent _
    · exact hs.badFrame _

theorem PortSound.wakesAtMost (hs : PortSound s) (hdisplay : DisplayConsistent s) (h : WakesAtMost s t)
    (hcontrol : t.control = s.control) : PortSound t := by
  refine hs.of_same hcontrol ?_
  cases h with
  | kept h => rw [h]
  | woken hasleep _ _ _ howed =>
    obtain ⟨-, -, hstandby, -⟩ := hdisplay
    exact iff_of_false howed (by rw [(hstandby hasleep).1]; exact StandbyWaiting.noConfusion)

theorem PortSound.endPass (hs : PortSound s) : PortSound (endPass s) := by
  have hfell : (fallAsleep s).control = s.control := (fallAsleep_acts s).only.control
  have hscan : ∀ {u : State}, u.scan = s.scan.asleep → u.scan.standby ≠ .requestedOwed := fun h => by
    rw [h]; exact StandbyWaiting.noConfusion
  unfold Machine.endPass
  split
  · split
    · unfold enterStandby
      dsimp only
      split
      · next howed =>
        have hhand : s.control.inHand = true := hs.hand.1.mpr (by simpa using howed)
        obtain ⟨hqueue, hroom⟩ := hs.hand.2 hhand
        unfold payOwedReply
        split
        · next hnil => exact absurd (hfell ▸ hnil) hqueue
        · exact hs.formReply hroom hfell (hscan (fallAsleep_scan s)) _ _ _
      · next howed =>
        exact hs.of_same hfell (iff_of_false (hscan (fallAsleep_scan s)) (by simpa using howed))
    · exact hs.of_same (enterGap_acts s).only.control (by rw [enterGap_scan])
  · exact hs

theorem endGap_standby_owed (s : State) : (endGap s).scan.standby = .requestedOwed ↔ s.scan.standby = .requestedOwed := by
  unfold endGap
  split
  · rw [passStart_standby_owed, wokenCheck_scan, senseGapEnd_if_scan]
  · rfl

/-- Every command keeps the Control Port sound, in a state whose display is consistent. -/
theorem exec_portSound {c : Instr} (hs : PortSound s) (hdisplay : DisplayConsistent s) (h : exec c s = .next t) :
    PortSound t := by
  cases c
  all_goals obtain rfl := Host.Outcome.next.inj h
  case powerOn =>
    exact ⟨Nat.zero_le _, Nat.zero_le _, Nat.zero_le _, iff_of_false Bool.false_ne_true StandbyWaiting.noConfusion,
      fun h => absurd h Bool.false_ne_true⟩
  case controlCharacter ch stopBit => exact hs.takeCharacter ch stopBit
  case replySent => exact hs.sendReply
  case unknownKind => exact hs.handOnUnknown
  case identify => exact hs.handOn_of_answers actIdentify_answers actIdentify_onlyAnswers 0x01
  case getStatus => exact hs.handOn_of_answers actGetStatus_answers actGetStatus_onlyAnswers 0x02
  case setLayout =>
    refine hs.handOn actSetLayout_answers (fun p => (actSetLayout_acts p s).only.control) (fun p hnot => ?_) 0x03
    unfold actSetLayout
    split
    · exact hnot
    · split <;> exact hnot
  case getLayout => exact hs.handOn_of_answers actGetLayout_answers actGetLayout_onlyAnswers 0x04
  case setParams => exact hs.handOn_of_acts actSetParams_answers (fun p => (actSetParams_acts p s).only) 0x05
  case getParams => exact hs.handOn_of_answers actGetParams_answers actGetParams_onlyAnswers 0x06
  case survey => exact hs.handOn_of_acts actSurvey_answers (fun p => (actSurvey_acts p s).only) 0x10
  case retest => exact hs.handOn_of_acts actRetest_answers (fun p => (actRetest_acts p s).only) 0x11
  case halt => exact hs.handOn_of_acts actHalt_answers (fun p => (actHalt_acts p s).only) 0x12
  case pin => exact hs.handOn_of_acts actPin_answers (fun p => (actPin_acts p s).only) 0x18
  case unpin => exact hs.handOn_of_acts actUnpin_answers (fun p => (actUnpin_acts p s).only) 0x19
  case restore => exact hs.handOn_of_acts actRestore_answers (fun p => (actRestore_acts p s).only) 0x1A
  case readMap => exact hs.handOn_of_answers actReadMap_answers actReadMap_onlyAnswers 0x20
  case readTransitions =>
    exact hs.handOn_of_acts actReadTransitions_answers (fun p => (actReadTransitions_acts p s).only) 0x21
  case readPlan => exact hs.handOn_of_answers actReadPlan_answers actReadPlan_onlyAnswers 0x22
  case armCapture => exact hs.handOn_of_acts actArmCapture_answers (fun p => (actArmCapture_acts p s).only) 0x28
  case disarm => exact hs.handOn_of_acts actDisarm_answers (fun p => (actDisarm_acts p s).only) 0x29
  case readCapture => exact hs.handOn_of_answers actReadCapture_answers actReadCapture_onlyAnswers 0x2A
  case releaseHold => exact hs.handOn_of_acts actReleaseHold_answers (fun p => (actReleaseHold_acts p s).only) 0x2B
  case standby => exact hs.handOnStandby
  case wake =>
    refine hs.handOn actWake_answers (fun p => (actWake_acts p s).only.control) (fun p hnot => ?_) 0x31
    unfold actWake
    split
    · exact hnot
    · obtain hsame | ⟨_, _, _, _, howed⟩ := wakeDisplay_wakes s
      · dsimp only; rw [hsame]; exact hnot
      · exact howed
  case restart =>
    refine hs.handOn actRestart_answers (fun p => ?_) (fun p _ => ?_) 0x32
    · show (restartAll s).control = s.control
      have hblocks : (restartBlocks s).control = s.control := by
        unfold restartBlocks
        rw [restartSense_eq, (abortLong_acts _).only.control]
        rfl
      rw [restartAll_eq]
      exact (restartRound_acts _ _).only.control.trans hblocks
    · show (restartAll s).scan.standby ≠ .requestedOwed
      rw [restartAll_scan]
      exact StandbyWaiting.noConfusion
  case readEvents => exact hs.handOn_of_acts actReadEvents_answers (fun p => actReadEvents_only p s) 0x38
  case setMask => exact hs.handOn_of_acts actSetMask_answers (fun p => actSetMask_only p s) 0x39
  case readCounters => exact hs.handOn_of_acts actReadCounters_answers (fun p => (actReadCounters_acts p s).only) 0x3A
  case linkByte b => exact hs.wakesAtMost hdisplay (takeLinkByte_wakes s b) (takeLinkByte_acts b s).only.control
  case lossOfSignal => exact hs.of_only (takeLossOfSignal_acts s).only
  case lightRow => exact hs.of_same (lightRow_acts s).only.control (by rw [lightRow_displayKept.standby])
  case passEnd => exact hs.endPass
  case gapEnd => exact hs.of_same (endGap_acts s).only.control (endGap_standby_owed s)
  case gapTestAnswer test result hot => exact hs.of_only (takeAnswer_acts test result hot s).only
  case liveShortReport die =>
    exact hs.of_same (liveShort_acts die s).only.control (by rw [(liveShort_displayKept die).standby])

end Port

/-! ## All of it -/

/-- The records of the map are in canonical form and within capacity. -/
def RecordsSound (s : State) : Prop := Table.canonical s.map.records = true ∧ s.map.records.length ≤ 1024

/-- What O55 says, part by part. -/
structure InOrder (s : State) : Prop where
  records : RecordsSound s
  tables : TablesSound s
  rows : RowsSound s
  display : DisplayConsistent s
  port : PortSound s

theorem inOrder_iff (s : State) :
    InOrder s ↔ TablesCanonical s ∧ WithinCapacity s ∧ HandConsistent s ∧ DisplayConsistent s := by
  constructor
  · intro h
    obtain ⟨⟨hrecords, hmap⟩, ⟨hplan, hscan, hqueue⟩, hrows, hdisplay, hport⟩ := h
    refine ⟨⟨hrecords, hplan.select.1, hplan.boost.1, hplan.edited, hplan.shortfall, hplan.deferred, hscan.select.1,
      hscan.boost.1, fun r hr => ⟨(hrows r hr).1.1, (hrows r hr).2.1⟩, hplan.select.ne_of_mem, hscan.select.ne_of_mem,
      hplan.boost.ne_of_mem, hscan.boost.ne_of_mem, fun r hr e he => ?_⟩,
      ⟨hmap, hqueue, hplan.capacity, hport.queue, hport.replies, hport.content⟩, hport.hand, hdisplay⟩
    exact (List.mem_append.mp he).elim ((hrows r hr).1.2 e) ((hrows r hr).2.2 e)
  · rintro ⟨⟨hrecords, hselect, hboost, hedited, hshortfall, hdeferred, hliveSelect, hliveBoost, hslots, hselect', hlive',
      hboost', hliveBoost', hvalues⟩, ⟨hmap, hqueue, hcapacity, hmessages, hreplies, hcontent⟩, hhand, hdisplay⟩
    exact {
      records := ⟨hrecords, hmap⟩
      tables := ⟨⟨.of_mem hselect hselect', .of_mem hboost hboost', hshortfall, hdeferred, hedited, hcapacity⟩,
        ⟨.of_mem hliveSelect hlive', .of_mem hliveBoost hliveBoost'⟩, hqueue⟩
      rows := fun r hr =>
        ⟨⟨(hslots r hr).1, fun e he => hvalues r hr e (List.mem_append_left _ he)⟩,
          ⟨(hslots r hr).2, fun e he => hvalues r hr e (List.mem_append_right _ he)⟩⟩
      display := hdisplay
      port := ⟨hmessages, hreplies, hcontent, hhand⟩ }

theorem exec_inOrder {c : Instr} {s t : State} (hs : InOrder s) (h : exec c s = .next t) : InOrder t where
  records := by
    obtain ⟨hcanonical, hlength⟩ := hs.records
    obtain hedits | hempty := (commands_editRecords s).exec h
    · exact hedits.fits hcanonical hlength
    · unfold RecordsSound
      rw [hempty]
      exact ⟨rfl, Nat.zero_le _⟩
  tables := (planInvariant_tablesSound.commands hs.tables).exec h
  rows := (commands_keepRows hs.rows).exec h
  display := (commands_keepDisplay hs.display).exec h
  port := exec_portSound hs.port hs.display h

/-- Settles O55, part by part: each part is kept by every command; the live Boost Table has room because a pass start leaves
it the plan's. -/
theorem tablesStayInOrder : Obligations.TablesStayInOrder := by
  intro s t htables hcapacity hhand hdisplay hstep
  have hs : InOrder s := (inOrder_iff s).mpr ⟨htables, hcapacity, hhand, hdisplay⟩
  have ht : InOrder t := step_keeps (P := InOrder) (fun _ h => ⟨h.records, ⟨h.tables.plan, h.tables.scan, h.tables.queue⟩,
    h.rows, h.display, ⟨h.port.queue, h.port.replies, h.port.content, h.port.hand⟩⟩)
    (fun _ _ hexec hs => exec_inOrder hs hexec) hstep hs
  obtain ⟨htables', hcapacity', hhand', hdisplay'⟩ := (inOrder_iff t).mp ht
  exact ⟨htables', hcapacity', hhand', hdisplay', fun hlive hroom =>
    (planInvariant_liveTablesSound.step hstep ⟨hs.tables, hlive, hroom⟩).capacity⟩

end Sys2Proof.Machine
end

section
/-! PROOFS. A step and its command, the blocks each command may change, the values of power-on, and the invariants of the
part after it. -/

namespace Sys2Proof.Machine

/-! ## A step (00_scope.md 0.3) -/

/-- Settles O1: `step` matches on the queue of commands. -/
theorem stepTakesFrontCommand : Obligations.StepTakesFrontCommand := by
  refine ⟨fun c rest s hqueue => ?front, fun s hqueue => ?idle⟩
  case front => simp only [step, hqueue]
  case idle => simp only [step, hqueue]

/-! ## The blocks a command may change -/

/-- An action that leaves the state as it is changes the Control Port at most. -/
theorem OnlyAnswers.handOn_only {act : List Byte → State → State × Answer} (h : OnlyAnswers act) (kind : Byte) (s : State) :
    OnlyChanges [.control] s (handOn kind act s) :=
  Machine.handOn_only (fun p s => by rw [h p s]; exact OnlyChanges.refl [] s) kind s

theorem powerOn_only {s t : State} (h : exec .powerOn s = .next t) : OnlyChanges (ownedBlocks .powerOn) s t := by
  obtain rfl := Host.Outcome.next.inj h
  intro b hb
  cases b
  case pending => rfl
  all_goals simp [ownedBlocks] at hb

theorem actRestart_only (p : List Byte) (s : State) :
    OnlyChanges [.capture, .scan, .input, .store, .sense, .map, .plan, .events] s (actRestart p s).1 := by
  have hcapture : OnlyChanges [.capture] s (restartCapture s) := (setCapture_acts _ _).only
  have hpicture : ∀ u, OnlyChanges [.scan, .input, .store] u (restartPicture u) := fun u =>
    ((setScan_acts u _).only.mono (by decide)).trans
      (((setInput_acts _ _).only.mono (by decide)).trans ((setStore_acts _ _).only.mono (by decide)))
  have hsense : ∀ u, OnlyChanges dieBlocks u (restartSense u) := fun u => by
    have hitems : OnlyChanges dieBlocks u (restartItems u) := (setSense_acts _ _).only.mono (by decide)
    rw [restartSense_eq]
    exact hitems.trans ((abortLong_acts _).only)
  have hround : ∀ l u, OnlyChanges [.plan, .events] u (restartRound l u) := fun l u => (restartRound_acts l u).only
  exact (((hcapture.mono (by decide)).trans ((hpicture _).mono (by decide))).trans ((hsense _).mono (by decide))).trans
    (((hround _ _).mono (by decide)).trans ((setEvents_only _ _).mono (by decide)))

/-- Settles O2: one lemma per command, each from what its operations act on. -/
theorem onlyOwnersChangeBlocks : Obligations.OnlyOwnersChangeBlocks := by
  intro c s t h
  have handed : ∀ {bs cs : List Block} {act : List Byte → State → State × Answer} {kind : Byte},
      (∀ p s, OnlyChanges bs s (act p s).1) → (∀ b ∈ Block.control :: bs, b ∈ cs) → OnlyChanges cs s (handOn kind act s) :=
    fun hact hsub => (handOn_only hact _ s).mono hsub
  cases c
  case powerOn => exact powerOn_only h
  all_goals obtain rfl := Host.Outcome.next.inj h
  case controlCharacter ch stopBit => exact (takeCharacter_acts ch stopBit s).only
  case replySent => exact (sendReply_acts s).only
  case unknownKind => exact (handOnUnknown_acts s).only
  case identify => exact actIdentify_onlyAnswers.handOn_only _ s
  case getStatus => exact actGetStatus_onlyAnswers.handOn_only _ s
  case setLayout => exact handed (fun p s => (actSetLayout_acts p s).only) (by decide)
  case getLayout => exact actGetLayout_onlyAnswers.handOn_only _ s
  case setParams => exact handed (fun p s => (actSetParams_acts p s).only) (by decide)
  case getParams => exact actGetParams_onlyAnswers.handOn_only _ s
  case survey => exact handed (fun p s => (actSurvey_acts p s).only) (by decide)
  case retest => exact handed (fun p s => (actRetest_acts p s).only) (by decide)
  case halt => exact handed (fun p s => (actHalt_acts p s).only) (by decide)
  case pin => exact handed (fun p s => (actPin_acts p s).only) (by decide)
  case unpin => exact handed (fun p s => (actUnpin_acts p s).only) (by decide)
  case restore => exact handed (fun p s => (actRestore_acts p s).only) (by decide)
  case readMap => exact actReadMap_onlyAnswers.handOn_only _ s
  case readTransitions => exact handed (fun p s => (actReadTransitions_acts p s).only) (by decide)
  case readPlan => exact actReadPlan_onlyAnswers.handOn_only _ s
  case armCapture => exact handed (fun p s => (actArmCapture_acts p s).only) (by decide)
  case disarm => exact handed (fun p s => (actDisarm_acts p s).only) (by decide)
  case readCapture => exact actReadCapture_onlyAnswers.handOn_only _ s
  case releaseHold => exact handed (fun p s => (actReleaseHold_acts p s).only) (by decide)
  case standby => exact handed (fun p s => (actStandby_acts p s).only) (by decide)
  case wake => exact handed (fun p s => (actWake_acts p s).only) (by decide)
  case restart => exact handed actRestart_only (by decide)
  case readEvents => exact handed actReadEvents_only (by decide)
  case setMask => exact handed actSetMask_only (by decide)
  case readCounters => exact handed (fun p s => (actReadCounters_acts p s).only) (by decide)
  case linkByte b => exact (takeLinkByte_acts b s).only
  case lossOfSignal => exact (takeLossOfSignal_acts s).only
  case lightRow => exact (lightRow_acts s).only
  case passEnd => exact (endPass_acts s).only.mono (by decide)
  case gapEnd => exact (endGap_acts s).only
  case gapTestAnswer test result hot => exact (takeAnswer_acts test result hot s).only
  case liveShortReport die => exact (liveShort_acts die s).only

/-! ## Power-on -/

/-- Settles O3: the model writes each value out. -/
theorem powerOnValues : Obligations.PowerOnValues := fun _ => rfl

theorem sharesAt_nil (l : Layout) (n : Nat) : l.sharesAt [] n = 0 := by
  have hnone : ∀ d, (match l.neighbour n d with
      | none => 0
      | some m => ((Table.fetch ([] : Table BoostEntry) m).bind fun e => e.share d.opposite).getD 0) = 0 := by
    intro d
    split <;> rfl
  unfold Layout.sharesAt
  rw [List.sum_eq_zero]
  intro x hx
  obtain ⟨d, -, rfl⟩ := List.mem_map.mp hx
  exact hnone d

theorem reset_layoutSound : LayoutSound State.reset := by
  refine ⟨by decide, by decide, by decide, by decide, by decide, by decide, fun i => ?_, rfl⟩
  have hvacant : State.reset.layout.record.slots[i] = SlotLayout.vacant := by fin_cases i <;> rfl
  rw [hvacant]
  exact ⟨by decide, by decide, fun hfitted => by simp [SlotLayout.vacant] at hfitted, fun _ => rfl⟩

theorem reset_modulesSound : ModulesSound State.reset := by
  intro i
  have hmodule : State.reset.sense.modules[i] = ModuleItem.vacant := by fin_cases i <;> rfl
  have hunset : State.reset.layout.fitted i = false := rfl
  unfold State.moduleState
  rw [hmodule]
  exact ⟨by simp [hunset, ModuleItem.vacant], by decide, by decide⟩

theorem reset_gapSound : GapSound State.reset :=
  ⟨by decide, List.nodup_nil, by simp [State.reset, Sense.powerOn], fun i => by fin_cases i <;> rfl⟩

/-- Settles O4: nothing is listed, queued or lit after power-on. -/
theorem resetMeetsInvariants : Obligations.ResetMeetsInvariants := by
  refine ⟨attentionFollows_of_powerOn _ rfl, ?tables, ?capacity, Nat.zero_le _, by simp [HandConsistent, State.reset, Scan.powerOn,
    ControlPort.powerOn], by simp [DisplayConsistent, State.reset, Scan.powerOn, Sense.powerOn], fun n _ => ⟨rfl, rfl⟩, ⟨fun _ _ => rfl, fun _ _ => rfl⟩,
    by simp [ParamsInRange, State.reset, Params.defaults], ⟨fun n => ?shares, fun n e he => ?entries⟩, by simp [RecordCountsSound, State.reset], reset_layoutSound,
    reset_modulesSound, by simp [RecordsPresent, State.reset], reset_gapSound⟩
  case tables => simp [TablesCanonical, State.reset, Plan.clear, Scan.powerOn]
  case capacity => simp [WithinCapacity, State.reset, Plan.clear, ControlPort.powerOn]
  case shares => exact ⟨(sharesAt_nil _ n).trans_le (Nat.zero_le _), (sharesAt_nil _ n).trans_le (Nat.zero_le _)⟩
  case entries => simp [State.reset, Plan.clear, Plan.entryOf, Scan.powerOn, Scan.entryOf] at he

end Sys2Proof.Machine
end

section
/-! PROOFS. The commands that report or set what the host sends: GET_STATUS, READ_MAP, READ_TRANSITIONS, SET_PARAMS and
ARM_CAPTURE (R185, R125, R128, R183, R161). -/

namespace Sys2Proof.Machine

/-! ## Replies -/

section FormReply
variable (m : Message) (st : Status) (data : List Byte) (s : State)
@[simp] theorem formReply_layout : (formReply m st data s).layout = s.layout := rfl
@[simp] theorem formReply_input : (formReply m st data s).input = s.input := rfl
@[simp] theorem formReply_store : (formReply m st data s).store = s.store := rfl
@[simp] theorem formReply_scan : (formReply m st data s).scan = s.scan := rfl
@[simp] theorem formReply_sense : (formReply m st data s).sense = s.sense := rfl
@[simp] theorem formReply_map : (formReply m st data s).map = s.map := rfl
@[simp] theorem formReply_plan : (formReply m st data s).plan = s.plan := rfl
@[simp] theorem formReply_params : (formReply m st data s).params = s.params := rfl
@[simp] theorem formReply_events : (formReply m st data s).events = s.events := rfl
end FormReply

section HandOn
variable {s u : State} {m : Message} {rest : List Message} {kind : Byte} {act : List Byte → State → State × Answer}

/-- A command whose owning block refuses is refused whole (R180). -/
theorem refused_of_act {c : Instr} {st : Status} (h : Handing s m rest) (hkind : m.kind = kind)
    (hlength : m.payload.length ∈ (payloadLengths kind).getD []) (hexec : exec c s = .next (handOn kind act s))
    (hact : act m.payload s = (s, .refuse st)) : Refused c s m rest st.code :=
  ⟨_, hexec, handOn_refuses h hkind hlength hact⟩

/-- What a reply formed after an action leaves: the action's state but for the Control Port, and the answer. -/
theorem formReply_ok {bs : List Block} {data : List Byte} (h : Handing s m rest) (honly : OnlyChanges bs s u)
    (hcontrol : Block.control ∉ bs) : Answered s (formReply m .ok data u) m rest (0 :: data) ∧
      OnlyChanges (.control :: bs) s (formReply m .ok data u) :=
  ⟨formReply_answered h (honly .control hcontrol) .ok data,
    (honly.mono fun _ => List.mem_cons_of_mem _).trans ((formReply_acts m .ok data u).only.mono (by simp))⟩

end HandOn

/-! ## Numbers in a payload (R189) -/

theorem sentIndex_cons (d0 d1 d2 : Byte) (p : List Byte) :
    sentIndex (d0 :: d1 :: d2 :: p) = d0.toNat + 256 * d1.toNat + 65536 * d2.toNat := by
  simp only [sentIndex, numberAt, byteAt, List.getD_cons_zero, List.getD_cons_succ]
  omega

/-! ## GET_STATUS (R185) -/

theorem actGetStatus_of_some {sec : Byte} {fields : List Byte} {s : State} (h : statusSection s sec.toNat = some fields) :
    actGetStatus [sec] s = (s, .ok (sec :: byteOf s.layout.status.code :: fields)) := by
  have hsection : statusSection s (byteAt [sec] 0) = some fields := h
  simp only [actGetStatus, hsection]
  rfl

theorem actGetStatus_of_none {sec : Byte} {s : State} (h : statusSection s sec.toNat = none) :
    actGetStatus [sec] s = (s, .refuse .badArg) := by
  have hsection : statusSection s (byteAt [sec] 0) = none := h
  simp only [actGetStatus, hsection]

theorem statusSection_of_above {s : State} {n : Nat} (h : 7 < n) : statusSection s n = none := by
  unfold statusSection
  split
  case h_9 => rfl
  all_goals omega

theorem longSection_of_none {s : State} (h : s.sense.long.kind = .none) :
    longSection s = [flagByte s.sense.long.running, 0] := by
  simp only [longSection, h]; rfl

theorem longSection_of_survey {s : State} (h : s.sense.long.kind = .survey) : longSection s =
    [flagByte s.sense.long.running, 1] ++ scopeBytes s.sense.long ++ indexBytes s.sense.long.cursor ++
      bytesOf 3 s.sense.long.tested ++ bytesOf 3 s.sense.long.skipped ++ bytesOf 3 s.sense.long.faults := by
  simp only [longSection, h, List.append_assoc]; rfl

theorem longSection_of_retest {s : State} (h : s.sense.long.kind = .retest) : longSection s =
    [flagByte s.sense.long.running, 2] ++ scopeBytes s.sense.long ++ bytesOf 2 s.sense.long.begun ++
      bytesOf 2 s.sense.long.restored ++ bytesOf 2 s.sense.long.reconfirmed ++ bytesOf 2 s.sense.long.withdrawn ++
      bytesOf 2 s.sense.long.abandoned ++ bytesOf 2 (s.recordsIn .retest) := by
  simp only [longSection, h, List.append_assoc]; rfl

/-- Settles O13: the codes by computing them, and each section's fields as the section's definition lists them. -/
theorem statusSectionsAreReported : Obligations.StatusSectionsAreReported := by
  refine ⟨by decide, fun s m rest sec h hkind hpayload => ?_⟩
  intro reports recordsIn off l scope
  have hlength : m.payload.length ∈ (payloadLengths 0x02).getD [] := by simp [hpayload, payloadLengths]
  have hreports : ∀ {fields}, statusSection s sec.toNat = some fields → reports fields := fun hfields =>
    ⟨_, rfl, handOn_reports h hkind hlength (hpayload ▸ actGetStatus_of_some hfields)⟩
  refine ⟨fun habove => ?_, ?_, ?_, ?_, ?_, ?_, ?_, ?_, ?_, ?_, ?_⟩
  · exact refused_of_act (st := .badArg) h hkind hlength rfl (hpayload ▸ actGetStatus_of_none (statusSection_of_above habove))
  · rintro rfl; exact hreports rfl
  · rintro rfl; exact hreports rfl
  · rintro rfl; exact hreports rfl
  · rintro rfl; exact hreports rfl
  · rintro rfl hlong; exact hreports (congrArg some (longSection_of_none hlong))
  · rintro rfl hlong; exact hreports (congrArg some (longSection_of_survey hlong))
  · rintro rfl hlong; exact hreports (congrArg some (longSection_of_retest hlong))
  · rintro rfl; exact hreports rfl
  · rintro rfl; exact hreports rfl
  · rintro rfl
    refine hreports (congrArg some ?_)
    simp only [captureSection, packBits_four, decide_eq_true_eq]

/-! ## READ_MAP and READ_TRANSITIONS (R125, R128) -/

/-- The next index as the walk finds it: one past the last record given while one lies beyond (R125). -/
theorem indexBytes_nextIndex (given rest : Table DefectRecord) :
    indexBytes (nextIndex (Table.keys given) (Table.keys rest)) =
      bytesOf 3 (match given.getLast?, rest with
        | some e, _ :: _ => e.1 + 1
        | _, _ => 0xFFFFFF) := by
  unfold indexBytes nextIndex Table.keys
  rw [List.getLast?_map]
  cases given.getLast? with
  | none => rfl
  | some e => cases rest <;> rfl

/-- Settles O25: the walk's entries and next index are those of the records from the start index on. -/
theorem readMapReports : Obligations.ReadMapReports := by
  intro s m rest d0 d1 d2 h hkind hpayload start found next bytes
  have hlength : m.payload.length ∈ (payloadLengths 0x20).getD [] := by simp [hpayload, payloadLengths]
  have hindex : sentIndex m.payload = start := by rw [hpayload, sentIndex_cons]
  have hcount : Config.dieCount = 110592 := rfl
  refine ⟨fun habove => ?beyond, fun hwithin => ?within⟩
  case beyond =>
    refine refused_of_act (st := .badArg) h hkind hlength rfl ?_
    unfold actReadMap
    rw [if_pos (by rw [hindex, hcount]; omega)]
  case within =>
    refine ⟨_, rfl, handOn_reports h hkind hlength ?_⟩
    unfold actReadMap
    rw [if_neg (by rw [hindex, hcount]; omega)]
    dsimp only
    rw [hindex, indexBytes_nextIndex]
    rfl

/-- Settles O26: the queue is cut after its sixth entry. -/
theorem readTransitionsTakesOldest : Obligations.ReadTransitionsTakesOldest := by
  intro s m rest h hkind hpayload
  have hreply := handOn_of_ok (act := actReadTransitions) h hkind (by simp [hpayload, payloadLengths]) rfl
  obtain ⟨hanswered, honly⟩ := formReply_ok (data := byteOf (s.map.queue.drop 6).length ::
    (s.map.queue.take 6).flatMap transitionBytes) h (actReadTransitions_acts m.payload s).only (by decide)
  refine ⟨_, congrArg Host.Outcome.next hreply, rfl, honly.mono (by decide), ?_⟩
  rw [show s.map.queue.length - 6 = (s.map.queue.drop 6).length from List.length_drop.symm]
  exact hanswered

end Sys2Proof.Machine
end

section
/-! PROOFS. SET_PARAMS, ARM_CAPTURE, STANDBY and WAKE (R183, R160, R161, R63, R60). -/

namespace Sys2Proof.Machine

/-! ## SET_PARAMS (R183) -/

theorem numberAt_two (p : List Byte) (i : Nat) : numberAt p i 2 = byteAt p i + 256 * byteAt p (i + 1) := rfl

theorem byteOf_pair_low (l0 l1 : Byte) : byteOf (l0.toNat + 256 * l1.toNat) = l0 := by
  apply BitVec.eq_of_toNat_eq
  simp only [byteOf, BitVec.toNat_ofNat]
  omega

theorem byteOf_pair_high (l0 l1 : Byte) : byteOf ((l0.toNat + 256 * l1.toNat) / 256) = l1 := by
  apply BitVec.eq_of_toNat_eq
  simp only [byteOf, BitVec.toNat_ofNat]
  omega

theorem byteOf_lowBits (flags : Byte) :
    byteOf ((if flags.getLsbD 0 then 1 else 0) + (if flags.getLsbD 1 then 2 else 0) +
      (if flags.getLsbD 2 then 4 else 0)) = flags &&& 7 := by
  revert flags; decide

/-- Settles O11: the fields are clamped one by one, and the round is taken exactly when F changes. -/
theorem setParamsStoresClamped : Obligations.SetParamsStoresClamped := by
  intro s m rest w c f b l0 l1 flags h hkind hpayload w' c' f' b' q clamped
  have hstored : storedParams m.payload = q := by rw [hpayload]; rfl
  have hbytes : paramBytes q = [byteOf w', byteOf c', byteOf f', byteOf b', l0, l1, flags &&& 7] := by
    rw [paramBytes_eq]
    simp only [q, byteOf_pair_low, byteOf_pair_high, byteOf_lowBits]
  have hclamped : paramsClamped m.payload = clamped := by rw [hpayload]; rfl
  have hact : actSetParams m.payload s =
      (if f' = s.params.f then s.setParams q else fractionRound (s.setParams q),
        .ok [flagByte clamped, byteOf w', byteOf c', byteOf f', byteOf b', l0, l1, flags &&& 7]) := by
    unfold actSetParams
    simp only [hstored, hclamped, hbytes]
    rfl
  have honly := (actSetParams_acts m.payload s).only
  rw [hact] at honly
  obtain ⟨hanswered, hblocks⟩ := formReply_ok h honly (by decide)
  refine ⟨_, congrArg Host.Outcome.next (handOn_of_ok h hkind (by simp [hpayload, payloadLengths]) hact), ?_, hanswered,
    hblocks.mono (by decide), fun hsame => ?_, fun hchanged => ?_⟩
  · rw [formReply_params]
    split
    · rfl
    · exact takeRound_params _ _ _
  · rw [formReply_plan, formReply_events, if_pos hsame]
    exact ⟨rfl, rfl⟩
  · rw [formReply_plan, formReply_events, if_neg hchanged]
    exact ⟨rfl, rfl⟩

/-! ## ARM_CAPTURE (R160, R161) -/

theorem Combine.ofCode_toNat (c : Byte) : Combine.ofCode c.toNat =
    if c = 0 then some .m1 else if c = 1 then some .m2 else if c = 2 then some .both
    else if c = 3 then some .either else none := by
  revert c; decide

/-- The checks of R160 on the fields of an arming. -/
def armingAccepted (given1 given2 : Prop) (x0 y0 x1 y1 combine rearm : Byte) : Prop :=
  (given2 → x0 ≤ x1 ∧ y0 ≤ y1) ∧ rearm ≤ 1 ∧
    ((combine = 0 ∧ given1 ∧ ¬ given2) ∨ (combine = 1 ∧ ¬ given1 ∧ given2) ∨
      ((combine = 2 ∨ combine = 3) ∧ given1 ∧ given2))

section Arming
variable (k0 k1 x0 y0 x1 y1 colours combine mask rearm : Byte)

/-- M2 as the fields give it. -/
def placeOf : Option PlaceMatcher :=
  if colours.truncate 3 = 0#3 then none
  else some
    { region := { x0 := x0.toNat, y0 := y0.toNat, x1 := x1.toNat, y1 := y1.toNat }, colours := colours.truncate 3 }

theorem sentPlace_eq : sentPlace [k0, k1, x0, y0, x1, y1, colours, combine, mask, rearm] = placeOf x0 y0 x1 y1 colours :=
  rfl

theorem sentKinds_eq : sentKinds [k0, k1, x0, y0, x1, y1, colours, combine, mask, rearm] =
    BitVec.ofNat 11 (k0.toNat + 256 * k1.toNat) := rfl

theorem placeOf_isSome : (placeOf x0 y0 x1 y1 colours).isSome = decide (colours.truncate 3 ≠ 0#3) := by
  unfold placeOf
  split <;> simp_all

theorem placeAccepted_placeOf : placeAccepted (placeOf x0 y0 x1 y1 colours) = true ↔
    (colours.truncate 3 ≠ 0#3 → x0 ≤ x1 ∧ y0 ≤ y1) := by
  unfold placeOf
  split
  · next hoff => exact iff_of_true rfl fun hne => absurd hoff hne
  · next hgiven =>
    simp only [placeAccepted, decide_eq_true_eq, BitVec.le_def]
    exact ⟨fun h _ => h, fun h => h hgiven⟩

/-- The arming a payload carries, when it passes the checks (R160). -/
def armingOf : Arming :=
  { kinds := BitVec.ofNat 11 (k0.toNat + 256 * k1.toNat), place := placeOf x0 y0 x1 y1 colours
    combine := if combine = 0 then .m1 else if combine = 1 then .m2 else if combine = 2 then .both else .either
    holdMask := mask, autoRearm := decide (rearm = 1) }

/-- With a combine's code, what is left to judge is the place, the matchers given and the AUTO_REARM flag (R160). -/
theorem sentArming_of_code {c : Combine} (h : Combine.ofCode combine.toNat = some c) :
    sentArming [k0, k1, x0, y0, x1, y1, colours, combine, mask, rearm] =
      if placeAccepted (placeOf x0 y0 x1 y1 colours) && combineAccepted c
          (decide (BitVec.ofNat 11 (k0.toNat + 256 * k1.toNat) ≠ 0)) (placeOf x0 y0 x1 y1 colours).isSome
          && decide (rearm.toNat ≤ 1) then
        some { armingOf k0 k1 x0 y0 x1 y1 colours combine mask rearm with combine := c }
      else none := by
  have hcode : Combine.ofCode (byteAt [k0, k1, x0, y0, x1, y1, colours, combine, mask, rearm] 7) = some c := h
  have hone : decide (rearm.toNat = 1) = decide (rearm = 1) :=
    decide_eq_decide.mpr ⟨fun h => BitVec.eq_of_toNat_eq h, fun h => by rw [h]; rfl⟩
  unfold sentArming armingOf
  rw [hcode, ← hone]
  rfl

/-- Which combine a code names, and when it uses exactly the matchers given (R160). -/
theorem combineAccepted_iff (given1 given2 : Prop) [Decidable given1] [Decidable given2] :
    (∃ c, Combine.ofCode combine.toNat = some c ∧ combineAccepted c (decide given1) (decide given2) = true) ↔
      (combine = 0 ∧ given1 ∧ ¬ given2) ∨ (combine = 1 ∧ ¬ given1 ∧ given2) ∨
        ((combine = 2 ∨ combine = 3) ∧ given1 ∧ given2) := by
  rw [Combine.ofCode_toNat]
  by_cases h0 : combine = 0
  · subst h0; simp [combineAccepted]
  by_cases h1 : combine = 1
  · subst h1; simp [combineAccepted]
  by_cases h2 : combine = 2
  · subst h2; simp [combineAccepted]
  by_cases h3 : combine = 3
  · subst h3; simp [combineAccepted]
  rw [if_neg h0, if_neg h1, if_neg h2, if_neg h3]
  exact iff_of_false (by simp) (by tauto)

theorem armingOf_combine {c : Combine} (h : Combine.ofCode combine.toNat = some c) :
    { armingOf k0 k1 x0 y0 x1 y1 colours combine mask rearm with combine := c } =
      armingOf k0 k1 x0 y0 x1 y1 colours combine mask rearm := by
  rw [Combine.ofCode_toNat] at h
  unfold armingOf
  split_ifs at h ⊢ <;> simp_all

/-- The payload carries an arming exactly when the checks pass. -/
theorem sentArming_eq_some_iff (a : Arming) :
    sentArming [k0, k1, x0, y0, x1, y1, colours, combine, mask, rearm] = some a ↔
      armingAccepted (BitVec.ofNat 11 (k0.toNat + 256 * k1.toNat) ≠ 0) (colours.truncate 3 ≠ 0#3) x0 y0 x1 y1 combine rearm ∧
        armingOf k0 k1 x0 y0 x1 y1 colours combine mask rearm = a := by
  unfold armingAccepted
  rw [← combineAccepted_iff]
  cases hcode : Combine.ofCode combine.toNat with
  | none =>
    have hnone : sentArming [k0, k1, x0, y0, x1, y1, colours, combine, mask, rearm] = none := by
      have hbyte : Combine.ofCode (byteAt [k0, k1, x0, y0, x1, y1, colours, combine, mask, rearm] 7) = none := hcode
      simp only [sentArming, hbyte]
    simp [hnone]
  | some c =>
    rw [sentArming_of_code _ _ _ _ _ _ _ _ _ _ hcode, armingOf_combine _ _ _ _ _ _ _ _ _ _ hcode, placeOf_isSome]
    have hle : rearm.toNat ≤ 1 ↔ rearm ≤ 1 := Iff.rfl
    simp only [Option.ite_none_right_eq_some, Bool.and_eq_true, placeAccepted_placeOf, decide_eq_true_eq, hle,
      Option.some.injEq, exists_eq_left']
    tauto

end Arming

/-- Settles O29: the payload's fields are judged as a whole, and an arming accepted replaces three items of the unit. -/
theorem armCaptureReplacesArming : Obligations.ArmCaptureReplacesArming := by
  intro s m rest k0 k1 x0 y0 x1 y1 colours combine mask rearm h hkind hpayload kinds given1 given2 accepted
  have hlength : m.payload.length ∈ (payloadLengths 0x28).getD [] := by simp [hpayload, payloadLengths]
  have hsome := sentArming_eq_some_iff k0 k1 x0 y0 x1 y1 colours combine mask rearm
  rw [← hpayload] at hsome
  refine ⟨fun hok => ?accepted, fun hbad => ?refused⟩
  case accepted =>
    have hact : actArmCapture m.payload s =
        (s.setCapture { s.capture with
            arming := armingOf k0 k1 x0 y0 x1 y1 colours combine mask rearm, snapshot := none, state := .armed },
          .ok [byteOf s.capture.state.code, flagByte s.capture.snapshot.isSome, s.capture.held]) := by
      unfold actArmCapture
      rw [(hsome _).mpr ⟨hok, rfl⟩]
    obtain ⟨hanswered, honly⟩ := formReply_ok (data := [byteOf s.capture.state.code, flagByte s.capture.snapshot.isSome,
      s.capture.held]) h (setCapture_acts s _).only (by decide)
    exact ⟨_, congrArg Host.Outcome.next (handOn_of_ok h hkind hlength hact), rfl, hanswered, honly.mono (by decide)⟩
  case refused =>
    have hnone : sentArming m.payload = none :=
      Option.eq_none_iff_forall_ne_some.mpr fun a ha => hbad ((hsome a).mp ha).1
    refine refused_of_act (st := .badArg) h hkind hlength rfl ?_
    simp only [actArmCapture, hnone]

/-! ## STANDBY and WAKE (R60, R63) -/

/-- Settles O33, by the display state. -/
theorem standbyAnsweredOrWaits : Obligations.StandbyAnsweredOrWaits := by
  intro s m rest h hkind hpayload
  have hlength : m.payload.length ∈ (payloadLengths 0x30).getD [] := by simp [hpayload, payloadLengths]
  refine ⟨fun hasleep => ?answered, fun hawake => ?waits⟩
  case answered =>
    refine ⟨_, rfl, handOn_reports h hkind hlength ?_⟩
    simp only [actStandby, hasleep, if_true]
    rfl
  case waits =>
    have hreply : handOn 0x30 actStandby s = keepInHand (s.setScan { s.scan with standby := .requestedOwed }) := by
      rw [handOn_of_handing h hkind hlength]
      simp only [actStandby, if_neg hawake]
      rfl
    exact ⟨_, congrArg Host.Outcome.next hreply, rfl, rfl,
      ((setScan_acts s _).only.mono (by decide)).trans ((setControl_acts _ _).only.mono (by decide))⟩

/-- Settles O34, by the display state and, in STANDBY, the layout state; a wake's pass is the one `passStart` describes. -/
theorem wakeStartsWaking : Obligations.WakeStartsWaking := by
  intro s m rest h hkind hpayload
  have hlength : m.payload.length ∈ (payloadLengths 0x31).getD [] := by simp [hpayload, payloadLengths]
  refine ⟨fun hasleep hset => ?wakes, fun hasleep hunset => ?unset, fun hawake => ?awake⟩
  case wakes =>
    have hact : actWake m.payload s =
        (passStart (s.setScan s.scan.woken), .ok (wakeReply (passStart (s.setScan s.scan.woken)))) := by
      unfold actWake
      rw [if_neg (by simp [hset]), wakeDisplay_of_asleep hasleep hset]
    have honly := (actWake_acts m.payload s).only
    rw [hact] at honly
    obtain ⟨hanswered, hblocks⟩ := formReply_ok (data := wakeReply (passStart (s.setScan s.scan.woken))) h honly (by decide)
    have hscan := passStart_scan (s.setScan s.scan.woken)
    have hdisplay : (passStart (s.setScan s.scan.woken)).scan.display = .waking := by rw [hscan]; rfl
    refine ⟨_, congrArg Host.Outcome.next (handOn_of_ok h hkind hlength hact), hdisplay, ?_, ?_, ?_, ?_, ?_, fun hauto => ?_,
      ?_, hblocks.mono (by decide)⟩
    · rw [formReply_scan, hscan]; rfl
    · rw [formReply_scan, hscan]; rfl
    · rw [formReply_scan, hscan]; rfl
    · rw [formReply_scan, hscan]; rfl
    · rw [formReply_plan, passStart_plan]
    · have hasks : (s.setScan s.scan.woken).asksStandby = false := by simp [State.asksStandby, hauto]
      rw [formReply_scan, hscan, hasks]; rfl
    · have hbytes : wakeReply (passStart (s.setScan s.scan.woken)) =
          [1, flagByte (decide ((passStart (s.setScan s.scan.woken)).scan.standby ≠ .none))] := by
        unfold wakeReply
        rw [hdisplay]
        rfl
      rw [formReply_scan, ← hbytes]
      exact hanswered
  case unset =>
    refine refused_of_act (st := .wrongState) h hkind hlength rfl ?_
    unfold actWake
    rw [if_pos ⟨hasleep, hunset⟩]
  case awake =>
    refine ⟨_, rfl, handOn_reports h hkind hlength ?_⟩
    unfold actWake
    rw [if_neg fun hstandby => hawake hstandby.1, wakeDisplay_of_not fun hstandby => hawake hstandby.1]
    rfl

end Sys2Proof.Machine
end

section
/-! PROOFS. The video input link inside a frame: symbols, closes and cuts, loss of signal, and reports of shorts that make no
cut (R17, R25, R29 to R32, R71, R74). -/

namespace Sys2Proof.Machine

/-! ## Closing and cutting a frame (R29 to R31) -/

/-- What a close or a cut does to a row, by the frame mode. -/
def FrameMode.closes : FrameMode → Row → Row
  | .written => Row.closed
  | .blank => Row.closedBlank

theorem FrameMode.closes_eq (mode : FrameMode) (r : Row) : mode.closes r =
    match mode, r.incoming with
    | .blank, _ => { r with pend := .black }
    | .written, .good => { r with pend := .content, incoming := .none }
    | .written, .bad => { r with pend := .none, incoming := .none }
    | .written, .filling => { r with pend := .none, incoming := .none }
    | .written, .none => r := by
  cases mode
  case blank => rfl
  case written =>
    obtain ⟨display, incoming, pend, held, blanked, slot0, slot1⟩ := r
    cases incoming <;> rfl

theorem closeRows_eq (s : State) : closeRows s = s.setStore (s.store.map s.input.mode.closes) := by
  unfold closeRows
  split
  · next h => rw [h]; rfl
  · next h => rw [h]; rfl

/-- How many rows a cut counts as bad. -/
def State.cutRows (s : State) : Nat := if s.input.mode = .written then s.fillingRows else 0

theorem cutFrame_eq (s : State) : cutFrame s =
    count .framesCut (countTimes .rowsBad s.cutRows (s.setStore (s.store.map s.input.mode.closes))) := by
  have hclose : ∀ n, closeRows (countTimes .rowsBad n s) =
      countTimes .rowsBad n (s.setStore (s.store.map s.input.mode.closes)) := fun n => by
    rw [closeRows_eq, countTimes_eq, countTimes_eq]; rfl
  unfold cutFrame State.cutRows
  dsimp only
  split
  · rw [hclose]
  · rw [closeRows_eq]; rfl

@[simp] theorem cutFrame_input (s : State) : (cutFrame s).input = s.input := (cutFrame_acts s).only.input

theorem symbolError_of_rows {s : State} (h : s.input.state = .rows) :
    symbolError s = toHunt (cutFrame (count .symbolErrors s)) := by
  unfold symbolError
  exact congrArg toHunt (if_pos h)

theorem linkSync_of_rows {s : State} (h : s.input.state = .rows) : linkSync s = toRx .sync (cutFrame s) := by
  unfold linkSync
  rw [if_pos h]

/-! ## A byte in HEADER or ROWS (R17) -/

theorem takeLinkByte_of_rows {s : State} (b : Byte) (h : s.input.state = .rows) : takeLinkByte b s = sortByte b s := by
  simp only [takeLinkByte, h]

theorem takeLinkByte_of_header {s : State} (b : Byte) (h : s.input.state = .header) : takeLinkByte b s = sortByte b s := by
  simp only [takeLinkByte, h]

section Sorting
variable {s : State} {b d : Byte}

/-- The state with no escape pending. -/
def State.unescaped (s : State) : State := s.setInput { s.input with escape := false }

theorem unescaped_of_plain (h : s.input.escape = false) : s.unescaped = s := by
  unfold State.unescaped
  rw [← h]
  rfl

theorem sortByte_fill : sortByte linkFill s = s := by
  simp only [sortByte, if_true]

theorem sortByte_of_escape (h : s.input.escape = true) (hfill : b ≠ linkFill) : sortByte b s = completeEscape b s := by
  simp only [sortByte, if_neg hfill, h, if_true]

theorem sortByte_esc (h : s.input.escape = false) :
    sortByte linkEsc s = s.setInput { s.input with escape := true } := by
  have hfill : linkEsc ≠ linkFill := by decide
  simp only [sortByte, if_neg hfill, h, Bool.false_eq_true, if_false, if_true]

theorem sortByte_sync (h : s.input.escape = false) : sortByte linkS1 s = linkSync s := by
  have hfill : linkS1 ≠ linkFill := by decide
  have hesc : linkS1 ≠ linkEsc := by decide
  simp only [sortByte, if_neg hfill, h, Bool.false_eq_true, if_false, if_neg hesc, if_true]

theorem sortByte_end (h : s.input.escape = false) : sortByte linkEnd s = linkEndSymbol s := by
  have hfill : linkEnd ≠ linkFill := by decide
  have hesc : linkEnd ≠ linkEsc := by decide
  have hsync : linkEnd ≠ linkS1 := by decide
  simp only [sortByte, if_neg hfill, h, Bool.false_eq_true, if_false, if_neg hesc, if_neg hsync, if_true]

theorem linkUnescape_of_bad (h1 : b ≠ 0xF1) (h2 : b ≠ 0xFC) (h3 : b ≠ 0xFE) (h4 : b ≠ 0xFF) : linkUnescape b = none :=
  if_neg (not_or.mpr ⟨h1, not_or.mpr ⟨h2, not_or.mpr ⟨h3, h4⟩⟩⟩)

theorem completeEscape_of_bad (h : linkUnescape b = none) (hsync : b ≠ linkS1) :
    completeEscape b s = symbolError s.unescaped := by
  simp only [completeEscape, h, if_neg hsync]
  rfl

theorem completeEscape_sync : completeEscape linkS1 s = linkSync (symbolError s.unescaped) := by
  have h : linkUnescape linkS1 = none := by decide
  simp only [completeEscape, h, if_true]
  rfl

/-- Byte `b` carries data byte `d`, plain or by an escape (R17). -/
def State.carries (s : State) (b d : Byte) : Prop :=
  (s.input.escape = false ∧ b ≠ 0xD1 ∧ b ≠ 0xDC ∧ b ≠ 0xDE ∧ b ≠ 0xDF ∧ d = b) ∨
    (s.input.escape = true ∧ (b = 0xF1 ∨ b = 0xFC ∨ b = 0xFE ∨ b = 0xFF) ∧ d = b ^^^ 0x20)

/-- A data byte, plain or by an escape, is taken as that byte with no escape pending. -/
theorem sortByte_of_carries (h : s.carries b d) : sortByte b s = linkData d s.unescaped := by
  obtain ⟨hplain, hsync, hesc, hend, hfill, rfl⟩ | ⟨hescape, hgood, rfl⟩ := h
  · rw [unescaped_of_plain hplain]
    have h1 : d ≠ linkFill := hfill
    have h2 : d ≠ linkEsc := hesc
    have h3 : d ≠ linkS1 := hsync
    have h4 : d ≠ linkEnd := hend
    simp only [sortByte, if_neg h1, hplain, Bool.false_eq_true, if_false, if_neg h2, if_neg h3, if_neg h4]
  · have hfill : b ≠ linkFill := by rintro rfl; revert hgood; decide
    have hunescape : linkUnescape b = some (b ^^^ 0x20) := if_pos hgood
    rw [sortByte_of_escape hescape hfill]
    simp only [completeEscape, hunescape]
    rfl

end Sorting

/-- A symbol error in ROWS counts, cuts the frame and goes to HUNT (R25, R31). -/
theorem symbolError_of_rows_eq {s : State} (h : s.input.state = .rows) : symbolError s =
    (cutFrame (count .symbolErrors s)).setInput { s.input with state := .hunt, firstFrame := true, escape := false } := by
  rw [symbolError_of_rows h]
  unfold toHunt
  rw [cutFrame_input]
  rfl

/-- A pending escape is not looked at by a cut. -/
theorem cutFrame_unescaped (s : State) : cutFrame s.unescaped = (cutFrame s).setInput s.unescaped.input := by
  rw [cutFrame_eq, cutFrame_eq, countTimes_eq, countTimes_eq]
  rfl

theorem symbolError_unescaped {s : State} (h : s.input.state = .rows) : symbolError s.unescaped = symbolError s := by
  rw [symbolError_of_rows_eq h, symbolError_of_rows_eq (s := s.unescaped) h,
    show count .symbolErrors s.unescaped = (count .symbolErrors s).unescaped from rfl, cutFrame_unescaped]
  rfl

/-- Settles O50: each symbol by the branch of `sortByte` that takes it, and the cut by `cutFrame_eq`. -/
theorem frameClosesOrIsCut : Obligations.FrameClosesOrIsCut := by
  intro s b hrows closed filling cut hunt
  have hclosed : closed = s.input.mode.closes := funext fun r => (FrameMode.closes_eq s.input.mode r).symm
  have hcut : ∀ u : State, u.input = s.input → u.store = s.store → cutFrame u = cut u := fun u hinput hstore => by
    rw [cutFrame_eq, State.cutRows, State.fillingRows, hinput, hstore, ← hclosed]
  have herror : symbolError s = hunt (cut (count .symbolErrors s)) := by
    rw [symbolError_of_rows_eq hrows, hcut (count .symbolErrors s) rfl rfl]
  simp only [exec_linkByte, Host.Outcome.next.injEq, takeLinkByte_of_rows _ hrows]
  refine ⟨sortByte_fill, sortByte_esc, fun hplain hboundary => ?closes, fun hplain hinside => ?badEnd, fun hplain => ?sync,
    fun hescape hfill h1 h2 h3 h4 hsync => ?badEscape, fun hescape => ?escapedSync⟩
  case closes =>
    refine (sortByte_end hplain).trans ?_
    unfold linkEndSymbol
    rw [if_pos ⟨hrows, hboundary⟩, closeFrame, closeRows_eq, ← hclosed]
    rfl
  case badEnd =>
    refine (sortByte_end hplain).trans ?_
    unfold linkEndSymbol
    rw [if_neg fun h => hinside h.2, herror]
  case sync =>
    refine (sortByte_sync hplain).trans ?_
    rw [linkSync_of_rows hrows, ← hcut s rfl rfl, toRx, cutFrame_input]
  case badEscape =>
    rw [sortByte_of_escape hescape hfill, completeEscape_of_bad (linkUnescape_of_bad h1 h2 h3 h4) hsync,
      symbolError_unescaped hrows, herror]
  case escapedSync =>
    have hhunting : (symbolError s).input.state ≠ .rows := by rw [herror]; simp [hunt]
    have hescaped : sortByte linkS1 s = completeEscape linkS1 s := sortByte_of_escape hescape (by decide)
    refine hescaped.trans ?_
    rw [completeEscape_sync, symbolError_unescaped hrows, linkSync_of_not_rows hhunting, herror]
    rfl

/-! ## Loss of signal (R32) -/

/-- Settles O51, by the receiver state. -/
theorem lossOfSignalHunts : Obligations.LossOfSignalHunts := by
  intro s closed filling hunt
  have hclosed : closed = s.input.mode.closes := funext fun r => (FrameMode.closes_eq s.input.mode r).symm
  have hexec : exec .lossOfSignal s = .next (takeLossOfSignal s) := rfl
  rw [hexec]
  refine ⟨fun hhunting => ?_, fun hheard hoff => ?_, fun hrows => ?_⟩
  · unfold takeLossOfSignal
    rw [if_pos hhunting]
  · unfold takeLossOfSignal
    dsimp only
    rw [if_neg hheard, if_neg (by simpa using hoff)]
    rfl
  · have hcut : cutFrame (raise .inputLost s) = count .framesCut (countTimes .rowsBad filling
        ((raise .inputLost s).setStore (s.store.map closed))) := by rw [cutFrame_eq, hclosed]; rfl
    unfold takeLossOfSignal
    dsimp only
    rw [if_neg (by simp [hrows]), if_pos (by simpa using hrows), hcut, countTimes_eq]
    rfl

/-! ## A short report that makes no cut (R71, R74) -/

theorem lightsDie_iff (s : State) (d : Nat) :
    s.lightsDie d = true ↔ s.scan.selectOf (dieChannel d) = if d % 2 = 1 then .b else .a := by
  unfold State.lightsDie isDieB
  cases s.scan.selectOf (dieChannel d) <;> by_cases h : d % 2 = 1 <;> simp [h]

/-- A report on a lit, present die of an ACTIVE pass that is not PINNED_GOOD cuts its channel (R71, R72). -/
theorem liveShort_of_lit {s : State} {d : Nat} (hactive : s.scan.display = .active) (hpass : s.scan.phase = .pass)
    (hpresent : s.layout.presentDie d = true) (hlit : s.lightsDie d = true) :
    liveShort d s = if s.recordState d = some .pinnedGood then count .pinnedShorts s else immediateCut d s := by
  unfold liveShort
  rw [if_neg (by simp [hactive, hpass]), if_neg (by simp [hpresent, hlit])]

/-- Settles O45, by the checks of R71 in turn. -/
theorem liveShortLeftAlone : Obligations.LiveShortLeftAlone := by
  intro s die lit
  have hexec : exec (.liveShortReport die) s = .next (liveShort die s) := rfl
  have hdiscarded : (s.layout.presentDie die = false ∨ s.lightsDie die = false) → liveShort die s = s := by
    intro h
    unfold liveShort
    split
    · rfl
    · rw [if_pos (by simpa using h)]
  rw [hexec]
  refine ⟨fun hidle => ?_, fun hdark => ?_, fun habsent => ?_, fun hactive hpass hpresent hlit hpinned => ?_⟩
  · unfold liveShort
    rw [if_pos hidle]
  · rw [hdiscarded (Or.inr (Bool.eq_false_iff.mpr fun h => hdark ((lightsDie_iff s die).mp h)))]
  · rw [hdiscarded (Or.inl habsent)]
  · rw [liveShort_of_lit hactive hpass hpresent ((lightsDie_iff s die).mpr hlit), if_pos hpinned]

end Sys2Proof.Machine
end

section
/-! PROOFS. A header on the video input link, and the wake it may bring (R20 to R24). -/

namespace Sys2Proof.Machine

/-! ## Counters (R199) -/

@[simp] theorem EventUnit.raised_counter (u : EventUnit) (e : Event) (c : Counter) : (u.raised e).counter c = u.counter c := rfl

theorem EventUnit.countedTimes_counter_of_ne {c d : Counter} (h : d ≠ c) (u : EventUnit) (n : Nat) :
    (u.countedTimes c n).counter d = u.counter d := by
  induction n generalizing u with
  | zero => rfl
  | succ n ih => exact (ih _).trans (EventUnit.counted_counter_of_ne _ _ h)

/-- A pass start counts blanked rows and nothing else. -/
theorem passStart_counter_of_ne {c : Counter} (h : c ≠ .rowsBlanked) (s : State) :
    (passStart s).events.counter c = s.events.counter c := by
  rw [passStart_events]
  split
  · rfl
  · rw [EventUnit.raised_counter, EventUnit.countedTimes_counter_of_ne h]

/-! ## Judging a header (R20 to R24) -/

/-- The state after a frame's sequence number has been compared with the last one's (R22). -/
def State.gapCounted (s : State) (seq : BitVec 16) : State :=
  if s.input.firstFrame = false ∧ seq ≠ s.input.lastSeq + 1 then count .seqGaps s else s

theorem gapCounted_input (s : State) (seq : BitVec 16) : (s.gapCounted seq).input = s.input := by
  unfold State.gapCounted
  split <;> rfl

theorem settleSequence_eq (seq : BitVec 16) (s : State) : settleSequence seq s =
    (s.gapCounted seq).setInput { s.input with lastSeq := seq, firstFrame := false } := by
  rw [← gapCounted_input s seq]
  rfl

theorem gapCounted_setInput (s : State) (seq : BitVec 16) {x : Receiver} (hfirst : x.firstFrame = s.input.firstFrame)
    (hlast : x.lastSeq = s.input.lastSeq) : (s.setInput x).gapCounted seq = (s.gapCounted seq).setInput x := by
  unfold State.gapCounted
  rw [State.setInput_input, hfirst, hlast]
  split <;> rfl

/-- A header taken in STANDBY is discarded and counted; it wakes the display under either parameter (R23). -/
theorem headerInStandby_eq (flag lock : Bool) (s : State) : headerInStandby flag lock s =
    if (flag = true ∧ s.params.wakeOnFlag = true) ∨ (lock = true ∧ s.params.wakeOnLock = true) then
      wakeDisplay (toRx .discard (count .framesIgnored s))
    else toRx .discard (count .framesIgnored s) := by
  unfold headerInStandby
  simp only [Bool.or_eq_true, Bool.and_eq_true]
  rfl

section Judge
variable {s : State} {q0 q1 flags d : Byte}

theorem judgeHeader_of_unset (h : s.layout.status = .unset) (bytes : List Byte) :
    judgeHeader bytes s = toRx .discard (count .framesIgnored s) := if_pos h

theorem judgeHeader_of_other (h : s.layout.status = .set)
    (hgrid : d.toNat % 16 ≠ s.layout.record.mc ∨ d.toNat / 16 ≠ s.layout.record.mr) :
    judgeHeader [q0, q1, flags, d] s = toRx .discard (count .framesGeometry s) := by
  unfold judgeHeader
  rw [if_neg (by simp [h])]
  exact if_pos hgrid

theorem judgeHeader_of_accepted (h : s.layout.status = .set) (hmc : d.toNat % 16 = s.layout.record.mc)
    (hmr : d.toNat / 16 = s.layout.record.mr) : judgeHeader [q0, q1, flags, d] s =
      let u := settleSequence (BitVec.ofNat 16 (q0.toNat + 256 * q1.toNat)) s
      if s.scan.display = .standby then headerInStandby (flags.getLsbD 1) s.input.firstFrame u
      else openFrame (flags.getLsbD 0) u := by
  have hscan : ∀ q, (settleSequence q s).scan = s.scan := fun q => by
    rw [settleSequence_eq]
    unfold State.gapCounted
    split <;> rfl
  have hgrid : ¬ (byteAt [q0, q1, flags, d] 3 % 16 ≠ s.layout.record.mc ∨ byteAt [q0, q1, flags, d] 3 / 16 ≠ s.layout.record.mr) :=
    not_or.mpr ⟨not_not.mpr hmc, not_not.mpr hmr⟩
  unfold judgeHeader
  dsimp only
  rw [if_neg (by simp [h]), if_neg hgrid, hscan]
  rfl

end Judge

theorem headerData_of_more {b : Byte} {s : State} (h : (s.input.header ++ [b]).length ≠ 4) :
    headerData b s = s.setInput { s.input with header := s.input.header ++ [b] } := if_neg h

theorem headerData_of_four {b : Byte} {s : State} (h : (s.input.header ++ [b]).length = 4) :
    headerData b s = judgeHeader (s.input.header ++ [b]) (s.setInput { s.input with header := s.input.header ++ [b] }) :=
  if_pos h

theorem linkData_of_header {b : Byte} {s : State} (h : s.input.state = .header) : linkData b s = headerData b s := by
  unfold linkData
  rw [if_neg (by simp [h])]

/-- A data byte in HEADER, plain or by an escape, joins the header's bytes (R17, R20). -/
theorem takeLinkByte_headerData {s : State} {b d : Byte} (h : s.input.state = .header) (hcarries : s.carries b d) :
    takeLinkByte b s = headerData d s.unescaped := by
  rw [takeLinkByte_of_header b h, sortByte_of_carries hcarries, linkData_of_header (s := s.unescaped) h]

/-- The wake of a header: the first WAKING pass begins, and the frame's counts stand (R23, R57). -/
theorem wakeDisplay_discarded {u : State} (hasleep : u.scan.display = .standby) (hset : u.layout.status = .set) :
    (wakeDisplay u).input = u.input ∧ (wakeDisplay u).scan.display = .waking ∧ (wakeDisplay u).scan.wakingLeft = 15 ∧
      (wakeDisplay u).scan.passNumber = u.scan.passNumber + 1 ∧
      ∀ c, c ≠ .rowsBlanked → (wakeDisplay u).events.counter c = u.events.counter c := by
  have hscan := passStart_scan (u.setScan u.scan.woken)
  refine ⟨(wakeDisplay_acts u).only.input, ?_⟩
  rw [wakeDisplay_of_asleep hasleep hset]
  exact ⟨by rw [hscan]; rfl, by rw [hscan]; rfl, by rw [hscan]; rfl, fun c hc => passStart_counter_of_ne hc _⟩

theorem gapCounted_framesIgnored (s : State) (seq : BitVec 16) :
    (s.gapCounted seq).events.counter .framesIgnored = s.events.counter .framesIgnored := by
  unfold State.gapCounted
  split
  · exact EventUnit.counted_counter_of_ne _ _ (by decide)
  · rfl

theorem gapCounted_seqGaps (s : State) (seq : BitVec 16) : (s.gapCounted seq).events.counter .seqGaps =
    s.events.counter .seqGaps + if s.input.firstFrame = false ∧ seq ≠ s.input.lastSeq + 1 then 1 else 0 := by
  unfold State.gapCounted
  split
  · exact EventUnit.counted_counter_self _ _
  · simp

/-- Settles O47: the symbols by the branch of `sortByte` that takes them, and the fourth data byte by the header's checks. -/
theorem headerIsCollectedAndJudged : Obligations.HeaderIsCollectedAndJudged := by
  intro s b hheader hunt reserved escaped
  have hrows : s.input.state ≠ .rows := by simp [hheader]
  have hsorts : ∀ x, exec (.linkByte x) s = .next (sortByte x s) := fun x =>
    congrArg Host.Outcome.next (takeLinkByte_of_header x hheader)
  refine ⟨(hsorts linkFill).trans (congrArg _ sortByte_fill), fun hplain => ⟨?esc, ?sync, ?stop⟩,
    fun hescape hbad hfill => ?badEscape, fun d hd => ?data⟩
  case esc => exact (hsorts linkEsc).trans (congrArg _ (sortByte_esc hplain))
  case sync =>
    exact (hsorts linkS1).trans (congrArg _ ((sortByte_sync hplain).trans (linkSync_of_not_rows hrows)))
  case stop =>
    refine (hsorts linkEnd).trans (congrArg _ ((sortByte_end hplain).trans ?_))
    unfold linkEndSymbol
    rw [if_neg fun hboth => hrows hboth.1, symbolError_of_not_rows hrows]
    rfl
  case badEscape =>
    rw [hsorts, sortByte_of_escape hescape hfill]
    have herror : symbolError s.unescaped = toHunt (count .symbolErrors s.unescaped) :=
      symbolError_of_not_rows (s := s.unescaped) hrows
    by_cases hsync : b = linkS1
    · rw [hsync, completeEscape_sync, herror, linkSync_of_not_rows (by simp [toHunt])]
      rfl
    · obtain ⟨h1, h2, h3, h4⟩ : b ≠ 0xF1 ∧ b ≠ 0xFC ∧ b ≠ 0xFE ∧ b ≠ 0xFF := by
        simpa only [escaped, not_or] using hbad
      have hno : ¬ b = 0xD1 := hsync
      rw [completeEscape_of_bad (linkUnescape_of_bad h1 h2 h3 h4) hsync, herror, if_neg hno]
      rfl
  case data =>
    intro h kept
    have hcarries : s.carries b d := by
      obtain ⟨hplain, hreserved, hd⟩ | ⟨hescape, hgood, hd⟩ := hd
      · simp only [reserved, not_or] at hreserved
        obtain ⟨h1, h2, h3, h4⟩ := hreserved
        exact Or.inl ⟨hplain, h1, h2, h3, h4, hd⟩
      · exact Or.inr ⟨hescape, hgood, hd⟩
    rw [exec_linkByte, takeLinkByte_headerData hheader hcarries]
    refine ⟨fun hmore => congrArg _ (headerData_of_more (s := s.unescaped) hmore), fun q0 q1 flags hbytes => ?_⟩
    intro seq settled gaps
    have hjudge : headerData d s.unescaped = judgeHeader [q0, q1, flags, d] (s.setInput kept) := by
      have hfour : h = [q0, q1, flags, d] := by simp only [h, hbytes]; rfl
      rw [headerData_of_four (s := s.unescaped) (show h.length = 4 by rw [hfour]; rfl), ← hfour]
      rfl
    have hsettle : settleSequence seq (s.setInput kept) = (gaps s).setInput settled := by
      rw [settleSequence_eq, gapCounted_setInput s seq (x := kept) rfl rfl]
      rfl
    rw [hjudge]
    refine ⟨fun hunset => ?unset, fun hset hgrid => ?geometry, fun hset hmc hmr => ⟨fun hawake => ?opens, fun hasleep => ?asleep⟩⟩
    case unset => rw [judgeHeader_of_unset (s := s.setInput kept) hunset]; rfl
    case geometry => rw [judgeHeader_of_other (s := s.setInput kept) hset hgrid]; rfl
    case opens =>
      have hopened : judgeHeader [q0, q1, flags, d] (s.setInput kept) =
          openFrame (flags.getLsbD 0) (settleSequence seq (s.setInput kept)) :=
        (judgeHeader_of_accepted (s := s.setInput kept) hset hmc hmr).trans (if_neg hawake)
      rw [hopened, hsettle]
      rfl
    case asleep =>
      have hdiscard : toRx .discard (count .framesIgnored ((gaps s).setInput settled)) =
        (count .framesIgnored (gaps s)).setInput { settled with state := .discard } := rfl
      have hgaps : OnlyChanges [.events] s (gaps s) := by
        unfold gaps; split
        · exact (count_acts _ s).only
        · exact OnlyChanges.refl _ s
      have hjudged : judgeHeader [q0, q1, flags, d] (s.setInput kept) =
          headerInStandby (flags.getLsbD 1) s.input.firstFrame (settleSequence seq (s.setInput kept)) :=
        (judgeHeader_of_accepted (s := s.setInput kept) hset hmc hmr).trans (if_pos hasleep)
      refine ⟨_, rfl, ?_⟩
      rw [hjudged, hsettle, headerInStandby_eq, hdiscard]
      have hparams : ((gaps s).setInput settled).params = s.params := hgaps.params
      rw [hparams]
      split
      · next hwakes =>
        obtain ⟨hinput, hdisplay, hleft, hpass, hcounters⟩ := wakeDisplay_discarded
          (u := (count .framesIgnored (gaps s)).setInput { settled with state := .discard })
          (by simpa [hgaps.scan] using hasleep) (by simpa [hgaps.layout] using hset)
        refine ⟨hinput, fun _ => ⟨hdisplay, hleft, ?_, ?_, ?_⟩, fun hno => absurd hwakes hno⟩
        · rw [hpass]
          exact congrArg (fun c : Scan => c.passNumber + 1) hgaps.scan
        · rw [hcounters _ (by decide)]
          exact (EventUnit.counted_counter_self _ _).trans (congrArg (· + 1) (gapCounted_framesIgnored s seq))
        · rw [hcounters _ (by decide)]
          exact (EventUnit.counted_counter_of_ne _ _ (by decide)).trans (gapCounted_seqGaps s seq)
      · next hquiet => exact ⟨rfl, fun hwakes => absurd hwakes hquiet, fun _ => rfl⟩

end Sys2Proof.Machine
end

section
/-! PROOFS. Row blocks on the video input link: the index, the data bytes and the check (R25 to R28). -/

namespace Sys2Proof.Machine

theorem takeLinkByte_rowsData {s : State} {b d : Byte} (h : s.input.state = .rows) (hcarries : s.carries b d) :
    takeLinkByte b s = rowsData d s.unescaped := by
  rw [takeLinkByte_of_rows b h, sortByte_of_carries hcarries]
  exact if_pos h

theorem blockWritten_iff (s : State) :
    s.blockWritten = true ↔ s.input.mode = .written ∧ s.input.blockRow.toNat < s.layout.height := by
  simp only [State.blockWritten, Bool.and_eq_true, decide_eq_true_eq]

/-! ## The index of a block (R25, R27) -/

/-- The receiver once the index byte of a block has been taken. -/
def Receiver.atIndex (x : Receiver) (b : Byte) : Receiver :=
  { x with blockRow := b, blockSum := b, position := .inData 0, group := [] }

theorem blockIndex_of_untouched {b : Byte} {s : State} (h : ¬ (s.input.mode = .written ∧ b.toNat < s.layout.height)) :
    blockIndex b s = s.setInput (s.input.atIndex b) :=
  if_neg fun hwritten => h ((blockWritten_iff (s.setInput (s.input.atIndex b))).mp hwritten)

theorem blockIndex_of_written {b : Byte} {s : State} (h : s.input.mode = .written ∧ b.toNat < s.layout.height) :
    blockIndex b s =
      let t := (s.setInput (s.input.atIndex b)).setStore (s.store.modify b.toNat Row.filling)
      if (s.store[b.toNat]?.map Row.superseded).getD false then count .rowsSuperseded t else t :=
  if_pos ((blockWritten_iff (s.setInput (s.input.atIndex b))).mpr h)

theorem blockIndex_only (b : Byte) (s : State) : OnlyChanges frameBlocks s (blockIndex b s) := by
  by_cases h : s.input.mode = .written ∧ b.toNat < s.layout.height
  · have hrow : OnlyChanges frameBlocks s
        ((s.setInput (s.input.atIndex b)).setStore (s.store.modify b.toNat Row.filling)) :=
      ((setInput_acts s _).only.mono (by decide)).trans ((setStore_acts _ _).only.mono (by decide))
    rw [blockIndex_of_written h]
    dsimp only
    split
    · exact hrow.trans ((count_acts _ _).only.mono (by decide))
    · exact hrow
  · rw [blockIndex_of_untouched h]
    exact (setInput_acts s _).only.mono (by decide)

theorem blockIndex_input (b : Byte) (s : State) : (blockIndex b s).input = s.input.atIndex b := by
  by_cases h : s.input.mode = .written ∧ b.toNat < s.layout.height
  · rw [blockIndex_of_written h]
    dsimp only
    split <;> rfl
  · rw [blockIndex_of_untouched h]; rfl

theorem superseded_iff (r : Row) : r.superseded = true ↔ r.pend ≠ .none ∨ r.incoming = .good := by
  simp only [Row.superseded, Bool.or_eq_true, decide_eq_true_eq]

/-! ## The check of a block (R25, R28) -/

/-- Whether the block that a check byte ends is rightly summed and for a row of the grid (R28). -/
def State.blockGood (s : State) (b : Byte) : Bool :=
  decide (s.input.blockSum + b = 0) && decide (s.input.blockRow.toNat < s.layout.height)

theorem blockGood_iff (s : State) (b : Byte) :
    s.blockGood b = true ↔ s.input.blockSum + b = 0 ∧ s.input.blockRow.toNat < s.layout.height := by
  simp only [State.blockGood, Bool.and_eq_true, decide_eq_true_eq]

/-- The receiver once the check byte of a block has been taken. -/
def Receiver.atCheck (x : Receiver) (b : Byte) : Receiver :=
  { x with blockSum := x.blockSum + b, rowsDone := min 65535 (x.rowsDone + 1), position := .awaitingIndex }

theorem blockCheck_eq (b : Byte) (s : State) : blockCheck b s =
    let u := s.setInput (s.input.atCheck b)
    let t := if s.blockGood b then u else count .rowsBad u
    if s.blockWritten then
      t.setStore (s.store.modify s.input.blockRow.toNat fun r => { r with incoming := if s.blockGood b then .good else .bad })
    else t := by
  have hgood : (decide (s.input.blockSum + b = 0) && decide (s.input.blockRow.toNat < s.layout.height)) = s.blockGood b := rfl
  unfold blockCheck
  dsimp only
  rw [hgood]
  split
  · rfl
  · rfl

theorem blockCheck_only (b : Byte) (s : State) : OnlyChanges frameBlocks s (blockCheck b s) := by
  have hinput : OnlyChanges frameBlocks s (s.setInput (s.input.atCheck b)) := (setInput_acts s _).only.mono (by decide)
  have hcount : ∀ u, OnlyChanges frameBlocks u (count .rowsBad u) := fun u => (count_acts _ u).only.mono (by decide)
  have hstore : ∀ u x, OnlyChanges frameBlocks u (u.setStore x) := fun u x => (setStore_acts u x).only.mono (by decide)
  rw [blockCheck_eq]
  dsimp only
  split <;> split
  · exact hinput.trans (hstore _ _)
  · exact (hinput.trans (hcount _)).trans (hstore _ _)
  · exact hinput
  · exact hinput.trans (hcount _)

section Check
variable (b : Byte) (s : State)

theorem blockCheck_input : (blockCheck b s).input = s.input.atCheck b := by
  rw [blockCheck_eq]; dsimp only; split <;> split <;> rfl

theorem blockCheck_events : (blockCheck b s).events = if s.blockGood b then s.events else s.events.counted .rowsBad := by
  rw [blockCheck_eq]; dsimp only; split <;> split <;> rfl

theorem blockCheck_store : (blockCheck b s).store =
    if s.blockWritten then
      s.store.modify s.input.blockRow.toNat fun r => { r with incoming := if s.blockGood b then .good else .bad }
    else s.store := by
  rw [blockCheck_eq]; dsimp only; split <;> split <;> rfl

end Check

/-- Settles O48: the two positions of a block that are not data, each by the row it names. -/
theorem rowBlockStartsAndEnds : Obligations.RowBlockStartsAndEnds := by
  intro s sent b hrows hheight hcarries
  have htaken : exec (.linkByte sent) s = .next (rowsData b s.unescaped) :=
    congrArg Host.Outcome.next (takeLinkByte_rowsData hrows hcarries)
  have hstart : OnlyChanges frameBlocks s s.unescaped := (setInput_acts s _).only.mono (by decide)
  refine ⟨fun hindex => ?index, fun hcheck => ?check⟩
  case index =>
    intro written
    have hblock : rowsData b s.unescaped = blockIndex b s.unescaped := by
      have hposition : s.unescaped.input.position = .awaitingIndex := hindex
      simp only [rowsData, hposition]
    rw [hblock] at htaken
    refine ⟨_, htaken, blockIndex_input b _, fun hno => ?_, fun hyes => ⟨?_, fun r hr => ⟨fun hold => ?_, fun hpend hgood => ?_⟩⟩,
      hstart.trans (blockIndex_only b _)⟩
    · rw [blockIndex_of_untouched (s := s.unescaped) hno]
      exact ⟨rfl, rfl⟩
    · rw [blockIndex_of_written (s := s.unescaped) hyes]
      dsimp only
      split <;> rfl
    · have hsuperseded : (s.unescaped.store[b.toNat]?.map Row.superseded).getD false = true := by
        rw [show s.unescaped.store[b.toNat]? = some r from hr]
        exact (superseded_iff r).mpr hold
      rw [blockIndex_of_written (s := s.unescaped) hyes]
      dsimp only
      rw [if_pos hsuperseded]
      rfl
    · have hkept : ¬ (s.unescaped.store[b.toNat]?.map Row.superseded).getD false = true := by
        rw [show s.unescaped.store[b.toNat]? = some r from hr]
        exact fun h => ((superseded_iff r).mp h).elim (fun h => h hpend) hgood
      rw [blockIndex_of_written (s := s.unescaped) hyes]
      dsimp only
      rw [if_neg hkept]
      rfl
  case check =>
    intro row good
    have hblock : rowsData b s.unescaped = blockCheck b s.unescaped := by
      have hposition : s.unescaped.input.position = .awaitingCheck := hcheck
      simp only [rowsData, hposition]
    rw [hblock] at htaken
    have hgood : s.unescaped.blockGood b = true ↔ good := blockGood_iff s.unescaped b
    have hwritten : s.unescaped.blockWritten = true ↔ s.input.mode = .written ∧ row < s.layout.height :=
      blockWritten_iff s.unescaped
    have hstore := blockCheck_store b s.unescaped
    refine ⟨_, htaken, ?_, fun hok => ?_, fun hbad => ?_, fun hmode hrow => ⟨fun hok => ?_, fun hbad => ?_⟩, fun hblank => ?_,
      hstart.trans (blockCheck_only b _)⟩
    · rw [blockCheck_input]
      unfold Receiver.atCheck
      congr 1
      simp only [State.unescaped, State.setInput_input]
      split <;> omega
    · rw [blockCheck_events, if_pos (hgood.mpr hok)]; rfl
    · rw [blockCheck_events, if_neg (mt hgood.mp hbad)]; rfl
    · rw [hstore, if_pos (hwritten.mpr ⟨hmode, hrow⟩), hgood.mpr hok]; rfl
    · rw [hstore, if_pos (hwritten.mpr ⟨hmode, hrow⟩), Bool.eq_false_iff.mpr (mt hgood.mp hbad)]; rfl
    · rw [hstore, if_neg]
      · rfl
      · intro h
        obtain ⟨hmode, hrow⟩ := hwritten.mp h
        obtain hblank | hout := hblank
        · rw [hblank] at hmode; exact FrameMode.noConfusion hmode
        · exact absurd hrow (Nat.not_lt.mpr hout)

/-! ## The data of a block (R25, R26) -/

/-- The receiver once a data byte, the one of index `n` in its block, has been taken; `mc` is the grid's width in modules. -/
def Receiver.atData (x : Receiver) (mc n : Nat) (b : Byte) : Receiver :=
  { x with
    blockSum := x.blockSum + b
    group := if decide ((x.group ++ [b]).length = 5) then [] else x.group ++ [b]
    position := if n + 1 = 180 * mc then .awaitingCheck else .inData (n + 1) }

/-- A row with its target slot's group `k` written (R26). -/
def Row.withGroup (k : Nat) (g : List Byte) (r : Row) : Row := r.setTarget (writeGroup k g r.target)

theorem blockData_eq (n : Nat) (b : Byte) (s : State) : blockData n b s =
    let u := s.setInput (s.input.atData s.layout.record.mc n b)
    if (s.input.group ++ [b]).length = 5 ∧ s.blockWritten = true then
      u.setStore (s.store.modify s.input.blockRow.toNat (Row.withGroup (n / 5) (s.input.group ++ [b])))
    else u := by
  have hcond : (decide ((s.input.group ++ [b]).length = 5) && s.blockWritten) = true ↔
      (s.input.group ++ [b]).length = 5 ∧ s.blockWritten = true := by rw [Bool.and_eq_true, decide_eq_true_eq]
  unfold blockData
  dsimp only
  exact if_congr hcond rfl rfl

section Data
variable (n : Nat) (b : Byte) (s : State)

theorem blockData_input : (blockData n b s).input = s.input.atData s.layout.record.mc n b := by
  rw [blockData_eq]; dsimp only; split <;> rfl

theorem blockData_store : (blockData n b s).store =
    if (s.input.group ++ [b]).length = 5 ∧ s.blockWritten = true then
      s.store.modify s.input.blockRow.toNat (Row.withGroup (n / 5) (s.input.group ++ [b]))
    else s.store := by
  rw [blockData_eq]; dsimp only; split <;> rfl

theorem blockData_only : OnlyChanges [.input, .store] s (blockData n b s) := by
  have hinput : ∀ x, OnlyChanges [.input, .store] s (s.setInput x) := fun x => (setInput_acts s x).only.mono (by decide)
  rw [blockData_eq]
  dsimp only
  split
  · exact (hinput _).trans ((setStore_acts _ _).only.mono (by decide))
  · exact hinput _

end Data

/-- Writing a group changes its four values and no other (R26). -/
theorem value_writeGroup (k : Nat) (g : List Byte) (t : Table Nat) (j : Nat) :
    Table.value 0 (writeGroup k g t) j = if j / 4 = k then groupValue g (j % 4) else Table.value 0 t j := by
  simp only [writeGroup, List.foldl_cons, List.foldl_nil, Table.value_hold]
  by_cases h : j / 4 = k
  · rw [if_pos h]
    obtain h0 | h1 | h2 | h3 : j = 4 * k + 0 ∨ j = 4 * k + 1 ∨ j = 4 * k + 2 ∨ j = 4 * k + 3 := by omega
    · rw [if_neg (by omega), if_neg (by omega), if_neg (by omega), if_pos h0, show j % 4 = 0 by omega]
    · rw [if_neg (by omega), if_neg (by omega), if_pos h1, show j % 4 = 1 by omega]
    · rw [if_neg (by omega), if_pos h2, show j % 4 = 2 by omega]
    · rw [if_pos h3, show j % 4 = 3 by omega]
  · rw [if_neg (by omega), if_neg (by omega), if_neg (by omega), if_neg (by omega), if_neg h]

theorem groupValue_five (b0 b1 b2 b3 b4 : Byte) (j : Nat) : groupValue [b0, b1, b2, b3, b4] j =
    (b0.toNat + 256 * b1.toNat + 65536 * b2.toNat + 16777216 * b3.toNat + 4294967296 * b4.toNat) / 1024 ^ j % 1024 := by
  have hnumber : numberAt [b0, b1, b2, b3, b4] 0 5 =
      b0.toNat + 256 * b1.toNat + 65536 * b2.toNat + 16777216 * b3.toNat + 4294967296 * b4.toNat := by
    simp only [numberAt, byteAt, List.getD_cons_zero, List.getD_cons_succ]
    omega
  rw [groupValue, hnumber]

/-- Writing a group leaves the slot on display and the row's marks. -/
theorem withGroup_marks (k : Nat) (g : List Byte) (r : Row) :
    (r.withGroup k g).display = r.display ∧ (r.withGroup k g).incoming = r.incoming ∧ (r.withGroup k g).pend = r.pend ∧
      (r.withGroup k g).held = r.held ∧ (r.withGroup k g).blanked = r.blanked ∧
      (if r.display = 0 then (r.withGroup k g).slot0 = r.slot0 else (r.withGroup k g).slot1 = r.slot1) := by
  unfold Row.withGroup Row.setTarget
  split
  · exact ⟨rfl, rfl, rfl, rfl, rfl, rfl⟩
  · exact ⟨rfl, rfl, rfl, rfl, rfl, rfl⟩

theorem withGroup_target (k : Nat) (g : List Byte) (r : Row) :
    (if r.display = 0 then (r.withGroup k g).slot1 else (r.withGroup k g).slot0) =
      writeGroup k g (if r.display = 0 then r.slot1 else r.slot0) := by
  unfold Row.withGroup Row.setTarget Row.target
  split <;> rfl

/-- Settles O49: the group's fifth byte writes it, any other only joins it. -/
theorem pixelGroupsAreUnpacked : Obligations.PixelGroupsAreUnpacked := by
  intro s sent b n hrows hposition hcarries row writes
  have hstart : OnlyChanges [.input, .store] s s.unescaped := (setInput_acts s _).only.mono (by decide)
  have hblock : rowsData b s.unescaped = blockData n b s.unescaped := by
    have hdata : s.unescaped.input.position = .inData n := hposition
    simp only [rowsData, hdata]
  have htaken : exec (.linkByte sent) s = .next (blockData n b s.unescaped) :=
    congrArg Host.Outcome.next ((takeLinkByte_rowsData hrows hcarries).trans hblock)
  have hinput : (blockData n b s.unescaped).input = s.unescaped.input.atData s.layout.record.mc n b := blockData_input n b _
  have hstore := blockData_store n b s.unescaped
  have hwritten : s.unescaped.blockWritten = true ↔ writes := blockWritten_iff s.unescaped
  have honly := hstart.trans (blockData_only n b s.unescaped)
  refine ⟨_, htaken, by rw [hinput]; rfl, by rw [hinput]; rfl, by rw [hinput]; rfl, fun hother => ⟨?_, ?_⟩, fun hno => ?_,
    fun b0 b1 b2 b3 hgroup => ⟨?_, fun hyes r hr => ?_, fun y hy => ?_⟩, honly.events, honly⟩
  · rw [hinput]
    refine if_neg ?_
    have hlength : (s.input.group ++ [b]).length = s.input.group.length + 1 := by simp
    rw [decide_eq_true_eq]
    show ¬ (s.input.group ++ [b]).length = 5
    omega
  · rw [hstore, if_neg]
    · rfl
    · rintro ⟨hfive, -⟩
      have hlength : (s.input.group ++ [b]).length = s.input.group.length + 1 := by simp
      have hfive' : (s.input.group ++ [b]).length = 5 := hfive
      omega
  · rw [hstore, if_neg fun h => hno (hwritten.mp h.2)]
    rfl
  · rw [hinput]
    refine if_pos ?_
    rw [decide_eq_true_eq]
    show (s.input.group ++ [b]).length = 5
    rw [hgroup]
    rfl
  · have hfive : s.input.group ++ [b] = [b0, b1, b2, b3, b] := by rw [hgroup]; rfl
    have hmodified : (blockData n b s.unescaped).store = s.store.modify row (Row.withGroup (n / 5) [b0, b1, b2, b3, b]) := by
      have hfull : (s.unescaped.input.group ++ [b]).length = 5 := by
        show (s.input.group ++ [b]).length = 5
        rw [hfive]
        rfl
      rw [hstore, if_pos ⟨hfull, hwritten.mpr hyes⟩, ← hfive]
      rfl
    obtain ⟨hdisplay, hincoming, hpend, hheld, hblanked, hslot⟩ := withGroup_marks (n / 5) [b0, b1, b2, b3, b] r
    refine ⟨r.withGroup (n / 5) [b0, b1, b2, b3, b], ?_, hdisplay, hincoming, hpend, hheld, hblanked, hslot, fun k => ?_⟩
    · rw [hmodified, List.getElem?_modify, hr]
      simp
    · rw [withGroup_target, value_writeGroup, groupValue_five]
  · rw [hstore]
    split
    · have hother : s.input.blockRow.toNat ≠ y := Ne.symm hy
      rw [List.getElem?_modify]
      simp [hother, State.unescaped]
    · rfl

/-! ## A framed message, character by character (R175 to R177) -/

/-- The command for a character with its stop bit. -/
def characterCommand (ch : Byte) : Instr := .controlCharacter ch true

theorem Runs.append {as bs : List Instr} {s t u : State} (h : Runs as s t) (k : Runs bs t u) : Runs (as ++ bs) s u := by
  induction as generalizing s with
  | nil => obtain rfl := h; exact k
  | cons c cs ih =>
    obtain ⟨v, hv, hrest⟩ := h
    exact ⟨v, hv, ih hrest⟩

theorem Runs.one {c : Instr} {s t : State} (h : exec c s = .next t) : Runs [c] s t := ⟨t, h, rfl⟩

section Framed
variable (s : State) {c : List Byte}

/-- A content byte joins the content while there is room (R175). -/
theorem assemble_byte (b : Byte) (h : c.length < 63) :
    Runs ((portEscape b).map characterCommand) (setFraming .assembling false c s) (setFraming .assembling false (c ++ [b]) s) := by
  have happend : ∀ e, appendContent b (setFraming .assembling e c s) = setFraming .assembling false (c ++ [b]) s :=
    fun e => if_pos h
  have hexec : ∀ ch e, exec (characterCommand ch) (setFraming .assembling e c s) =
      .next (assembleCharacter ch (setFraming .assembling e c s)) := fun ch e =>
    congrArg Host.Outcome.next (takeCharacter_of_assembling rfl ch)
  unfold portEscape
  by_cases hreserved : b = portStart ∨ b = portEnd ∨ b = portEsc
  · have hback : portUnescape (b ^^^ 0x10) = some b := by
      obtain rfl | rfl | rfl := hreserved <;> decide
    rw [if_pos hreserved]
    refine ⟨setFraming .assembling true c s, ?_, Runs.one ?_⟩
    · rw [hexec, assembleCharacter_esc rfl]; rfl
    · rw [hexec, assembleCharacter_unescaped rfl hback, happend]
  · rw [if_neg hreserved]
    obtain ⟨hstart, hend, hesc⟩ : b ≠ portStart ∧ b ≠ portEnd ∧ b ≠ portEsc := by simpa only [not_or] using hreserved
    refine Runs.one ?_
    rw [hexec, assembleCharacter_content rfl hstart hend hesc, happend]

/-- The escaped bytes of a content that fits are assembled to it (R175). -/
theorem assemble_bytes (bytes : List Byte) (h : c.length + bytes.length ≤ 63) :
    Runs ((bytes.flatMap portEscape).map characterCommand) (setFraming .assembling false c s)
      (setFraming .assembling false (c ++ bytes) s) := by
  induction bytes generalizing c with
  | nil => rw [List.append_nil]; rfl
  | cons b bytes ih =>
    rw [List.length_cons] at h
    have hrest := ih (c := c ++ [b]) (by rw [List.length_append, List.length_singleton]; omega)
    rw [List.append_assoc, List.singleton_append] at hrest
    rw [List.flatMap_cons, List.map_append]
    exact (assemble_byte s b (by omega)).append hrest

end Framed

/-- Settles O6: START opens an empty content, the escaped bytes fill it, and END completes a message that sums to 0. -/
theorem framedMessageIsReceived : Obligations.FramedMessageIsReceived := by
  intro s kind tag check payload hidle hroom hlength hsum
  have hopen : Runs [characterCommand portStart] s (setFraming .assembling false [] s) :=
    Runs.one (congrArg Host.Outcome.next (takeCharacter_of_idle hidle portStart))
  have hbytes := assemble_bytes s (c := []) (kind :: tag :: payload ++ [check])
    (by simp only [List.length_nil, List.cons_append, List.length_cons, List.length_append]; omega)
  rw [List.nil_append] at hbytes
  have hclose : Runs [characterCommand portEnd] (setFraming .assembling false (kind :: tag :: payload ++ [check]) s)
      (s.setControl { s.control with
        framing := .idle, escape := false, content := []
        queue := s.control.queue ++ [{ kind := kind, tag := tag, payload := payload }] }) := by
    refine Runs.one (congrArg Host.Outcome.next ((takeCharacter_of_assembling rfl portEnd).trans ?_))
    rw [assembleCharacter_end rfl, completeMessage_of_good rfl hsum]
    exact offerMessage_of_room hroom
  rw [frameCharacters_eq, List.map_append, List.map_cons]
  exact (hopen.append hbytes).append hclose

end Sys2Proof.Machine
end

section
/-! PROOFS. SET_LAYOUT, SURVEY and HALT, and the checks before the commands that are refused by the first that fails (R9 to
R12, R91, R92, R98, R121, R124). -/

namespace Sys2Proof.Machine

theorem Layout.width_of_set {l : Layout} (h : l.status = .set) : l.width = 48 * l.record.mc := if_pos h

theorem Layout.height_of_set {l : Layout} (h : l.status = .set) : l.height = 48 * l.record.mr := if_pos h

/-! ## SET_LAYOUT (R9 to R12) -/

theorem layoutAccepted_iff (p : List Byte) : layoutAccepted p = true ↔
    1 ≤ byteAt p 0 ∧ byteAt p 0 ≤ 4 ∧ 1 ≤ byteAt p 1 ∧ byteAt p 1 ≤ 2 ∧
      ∀ i : Fin 8, byteAt p (2 + 4 * i) = 0 ∨
        (byteAt p (2 + 4 * i) = 1 ∧ byteAt p (3 + 4 * i) ≤ 1 ∧ i % 4 < byteAt p 0 ∧ i / 4 < byteAt p 1) := by
  simp only [layoutAccepted, slotAccepted, Bool.and_eq_true, Bool.or_eq_true, decide_eq_true_eq, List.all_eq_true,
    mem_slotList, forall_const, and_assoc]
  rfl

theorem layoutClamped_eq (p : List Byte) : layoutClamped p =
    decide (clampTo 240 3840 (sentPassRate p) ≠ sentPassRate p ∨
      ∃ i : Fin 8, sentFitted p i = 1 ∧ clampTo 192 320 (sentTrim p i) ≠ sentTrim p i) := by
  rw [Bool.eq_iff_iff]
  simp only [layoutClamped, Bool.or_eq_true, decide_eq_true_eq, List.any_eq_true, mem_slotList, true_and]

theorem sentTrim_eq (p : List Byte) (i : Fin 8) :
    sentTrim p i = byteAt p (4 + 4 * i) + 256 * byteAt p (5 + 4 * i) := by
  rw [sentTrim, numberAt_two, show 4 + 4 * i.val + 1 = 5 + 4 * i.val by omega]

theorem storedRecord_slot (p : List Byte) (i : Fin 8) : (storedRecord p).slots[i] = storedSlot p i := perSlot_get _ i

theorem storedSlot_fitted (p : List Byte) (i : Fin 8) : (storedSlot p i).fitted = decide (sentFitted p i = 1) := by
  unfold storedSlot
  split
  · next h => simp [h]
  · next h => simp [h, SlotLayout.vacant]

theorem acceptLayout_module (p : List Byte) (s : State) (i : Fin 8) : (acceptLayout p s).sense.modules[i] =
    { state := if sentFitted p i = 1 then .online else .vacant, settle := 0, noAnswer := 0, probeCursor := none } := by
  have hmodule : (acceptLayout p s).sense.modules[i] =
      freshModule { status := .set, record := storedRecord p } i := perSlot_get _ i
  have hfitted : Layout.fitted { status := .set, record := storedRecord p } i = decide (sentFitted p i = 1) := by
    rw [← storedSlot_fitted, ← storedRecord_slot]
    rfl
  rw [hmodule, freshModule, hfitted]
  simp only [decide_eq_true_eq]

theorem acceptLayout_store (p : List Byte) (s : State) :
    (acceptLayout p s).store = List.replicate (48 * byteAt p 1) Row.black := rfl

/-- Settles O14: the accepted record's fields, then what `layoutClears` clears. -/
theorem setLayoutAccepted : Obligations.SetLayoutAccepted := by
  intro s m rest p h hkind hpayload hlong hasleep hmc1 hmc4 hmr1 hmr2 hslots fitted trim trim' rate rate'
  have haccepted : layoutAccepted p = true := (layoutAccepted_iff p).mpr ⟨hmc1, hmc4, hmr1, hmr2, hslots⟩
  have hact : actSetLayout m.payload s =
      (acceptLayout p s, .ok (flagByte (layoutClamped p) :: layoutBytes (storedRecord p))) := by
    unfold actSetLayout
    rw [hpayload, if_neg (not_not.mpr hasleep), haccepted]
    rfl
  have hlength : m.payload.length ∈ (payloadLengths 0x03).getD [] := by simp [hpayload, hlong, payloadLengths]
  have honly := (actSetLayout_acts m.payload s).only
  rw [hact] at honly
  obtain ⟨hanswered, hblocks⟩ := formReply_ok (data := flagByte (layoutClamped p) :: layoutBytes (storedRecord p)) h honly
    (by decide)
  refine ⟨_, congrArg Host.Outcome.next (handOn_of_ok h hkind hlength hact), rfl, rfl, rfl, rfl, fun i => ?_, rfl, rfl, rfl,
    acceptLayout_store p s, rfl, acceptLayout_module p s, hblocks.mono (by decide), ?_⟩
  · refine (storedRecord_slot p i).trans ?_
    rw [storedSlot, sentTrim_eq]
    rfl
  · have hclamped : layoutClamped p = decide (rate' ≠ rate ∨ ∃ i : Fin 8, fitted i ∧ trim' i ≠ trim i) := by
      simp only [layoutClamped_eq, sentTrim_eq]
      rfl
    rw [← hclamped]
    refine (congrArg (Answered s _ m rest) ?_).mp hanswered
    rw [layoutBytes_eq]
    rfl

/-! ## The scope of SURVEY and RETEST (R91) -/

section Scope
variable {l : Layout} {x0 y0 x1 y1 colours dice : Byte}

theorem scopeAccepted_iff (hset : l.status = .set) (hmc : 1 ≤ l.record.mc) (hmr : 1 ≤ l.record.mr) :
    scopeAccepted l [x0, y0, x1, y1, colours, dice] = true ↔
      x0 ≤ x1 ∧ y0 ≤ y1 ∧ x0.toNat < 48 * l.record.mc ∧ y0.toNat < 48 * l.record.mr ∧
        colours.truncate 3 ≠ 0#3 ∧ dice.truncate 2 ≠ 0#2 := by
  have hregion : regionAt [x0, y0, x1, y1, colours, dice] 0 =
      { x0 := x0.toNat, y0 := y0.toNat, x1 := x1.toNat, y1 := y1.toNat } := rfl
  have hcolours : sentColours [x0, y0, x1, y1, colours, dice] = colours.truncate 3 := rfl
  have hdice : sentDice [x0, y0, x1, y1, colours, dice] = dice.truncate 2 := rfl
  have hxs : x0 ≤ x1 ↔ x0.toNat ≤ x1.toNat := Iff.rfl
  have hys : y0 ≤ y1 ↔ y0.toNat ≤ y1.toNat := Iff.rfl
  simp only [scopeAccepted, hregion, hcolours, hdice, clipRegion, Layout.width_of_set hset, Layout.height_of_set hset,
    Bool.and_eq_true, decide_eq_true_eq, hxs, hys, le_min_iff]
  constructor
  · rintro ⟨⟨⟨h1, h2, h3, h4⟩, hc⟩, hd⟩
    exact ⟨h1, h2, by omega, by omega, hc, hd⟩
  · rintro ⟨h1, h2, h3, h4, hc, hd⟩
    exact ⟨⟨⟨h1, h2, by omega, by omega⟩, hc⟩, hd⟩

/-- The region of a scope, clipped to the grid (R91). -/
theorem clipRegion_eq (hset : l.status = .set) : clipRegion l (regionAt [x0, y0, x1, y1, colours, dice] 0) =
    { x0 := x0.toNat, y0 := y0.toNat, x1 := min x1.toNat (48 * l.record.mc - 1),
      y1 := min y1.toNat (48 * l.record.mr - 1) } := by
  simp only [clipRegion, Layout.width_of_set hset, Layout.height_of_set hset]
  rfl

theorem scopeReply_eq {s : State} (hset : s.layout.status = .set) : scopeReply [x0, y0, x1, y1, colours, dice] s =
    [x0, y0, byteOf (min x1.toNat (48 * s.layout.record.mc - 1)), byteOf (min y1.toNat (48 * s.layout.record.mr - 1)),
      flagByte (decide (min x1.toNat (48 * s.layout.record.mc - 1) ≠ x1.toNat ∨
        min y1.toNat (48 * s.layout.record.mr - 1) ≠ y1.toNat))] := by
  have hbyte : ∀ b : Byte, byteOf b.toNat = b := fun b => by simp [byteOf]
  have hregion : regionAt [x0, y0, x1, y1, colours, dice] 0 =
      { x0 := x0.toNat, y0 := y0.toNat, x1 := x1.toNat, y1 := y1.toNat } := rfl
  have hclamped : ∀ a b : Nat, decide (({ x0 := x0.toNat, y0 := y0.toNat, x1 := a, y1 := b } : Region) ≠
      { x0 := x0.toNat, y0 := y0.toNat, x1 := x1.toNat, y1 := y1.toNat }) = decide (a ≠ x1.toNat ∨ b ≠ y1.toNat) := by
    intro a b
    rw [decide_eq_decide, ne_eq, Region.mk.injEq]
    tauto
  unfold scopeReply
  dsimp only
  rw [clipRegion_eq hset, hregion, hclamped]
  simp only [regionBytes, hbyte]
  rfl

end Scope

theorem inScope_iff (r : Region) (colours : BitVec 3) (dice : BitVec 2) (d : Nat) : inScope r colours dice d = true ↔
    r.x0 ≤ d / 2 / 3 % 192 ∧ d / 2 / 3 % 192 ≤ r.x1 ∧ r.y0 ≤ d / 2 / 3 / 192 ∧ d / 2 / 3 / 192 ≤ r.y1 ∧
      colours.getLsbD (d / 2 % 3) = true ∧ dice.getLsbD (d % 2) = true := by
  simp only [inScope, Bool.and_eq_true, decide_eq_true_eq, and_assoc]
  rfl

/-- The cursor's next die is the least one in scope (R92). -/
theorem nextInScope_some {r : Region} {colours : BitVec 3} {dice : BitVec 2} {start d : Nat}
    (h : nextInScope r colours dice start = some d) : inScope r colours dice d = true ∧ start ≤ d ∧ d < 110592 ∧
      ∀ e, start ≤ e → e < d → inScope r colours dice e = false := by
  obtain ⟨hin, hle, hlt, hbefore⟩ := firstFrom_some h
  have hcount : Config.dieCount = 110592 := rfl
  exact ⟨hin, hle, by omega, hbefore⟩

theorem nextInScope_none {r : Region} {colours : BitVec 3} {dice : BitVec 2} {start : Nat}
    (h : nextInScope r colours dice start = none) : ∀ e, start ≤ e → e < 110592 → inScope r colours dice e = false := by
  have hcount : Config.dieCount = 110592 := rfl
  exact fun e hle hlt => firstFrom_none h e hle (by omega)

theorem longRefusal_eq_none {s : State} {p : List Byte} (hset : s.layout.status = .set) (hawake : s.scan.display ≠ .standby)
    (hidle : s.sense.long.running = false) (hscope : scopeAccepted s.layout p = true) : longRefusal p s = none := by
  unfold longRefusal
  rw [if_neg (by simp [hset]), if_neg hawake, hidle, hscope]
  rfl

theorem getLsbD_truncate {n m : Nat} (x : BitVec n) {i : Nat} (h : i < m) : (x.truncate m).getLsbD i = x.getLsbD i := by
  simp [h]

theorem inScope_sent_iff (r : Region) (colours dice : Byte) (d : Nat) :
    inScope r (colours.truncate 3) (dice.truncate 2) d = true ↔
      r.x0 ≤ d / 2 / 3 % 192 ∧ d / 2 / 3 % 192 ≤ r.x1 ∧ r.y0 ≤ d / 2 / 3 / 192 ∧ d / 2 / 3 / 192 ≤ r.y1 ∧
        colours.getLsbD (d / 2 % 3) = true ∧ dice.getLsbD (d % 2) = true := by
  rw [inScope_iff, getLsbD_truncate _ (Nat.mod_lt _ (by decide)), getLsbD_truncate _ (Nat.mod_lt _ (by decide))]

/-- Settles O16: the slot as filled, with the cursor found by the search for the least die in scope. -/
theorem surveyStarts : Obligations.SurveyStarts := by
  intro s m rest x0 y0 x1 y1 colours dice h hkind hpayload hset hawake hidle hx hy hx0 hy0 hcolours hdice cx cy scope inside
  have hscope : scopeAccepted s.layout m.payload = true := by
    rw [hpayload]
    exact (scopeAccepted_iff hset (by omega) (by omega)).mpr ⟨hx, hy, hx0, hy0, hcolours, hdice⟩
  have hstarted : startedLong .survey m.payload s = { LongSlot.idle with
      running := true, kind := .survey, region := scope, colours := colours.truncate 3, dice := dice.truncate 2 } := by
    rw [hpayload]
    simp only [startedLong, clipRegion_eq hset]
    rfl
  have hact : actSurvey m.payload s = (setLong { startedLong .survey m.payload s with
      cursor := nextInScope scope (colours.truncate 3) (dice.truncate 2) 0 } s, .ok (scopeReply m.payload s)) := by
    unfold actSurvey
    rw [longRefusal_eq_none hset hawake hidle hscope]
    simp only [hstarted]
  have honly := (actSurvey_acts m.payload s).only
  rw [hact] at honly
  obtain ⟨hanswered, hblocks⟩ := formReply_ok (data := scopeReply m.payload s) h honly (by decide)
  have hlength : m.payload.length ∈ (payloadLengths 0x10).getD [] := by simp [hpayload, payloadLengths]
  have hinside : ∀ d, inScope scope (colours.truncate 3) (dice.truncate 2) d = true ↔ inside d :=
    fun d => inScope_sent_iff scope colours dice d
  refine ⟨_, congrArg Host.Outcome.next (handOn_of_ok h hkind hlength hact), ?_, fun d hd => ?_, fun hnone d hd => ?_,
    hblocks.mono (by decide), ?_⟩
  · rw [hstarted]; rfl
  · obtain ⟨hin, -, hlt, hbefore⟩ := nextInScope_some hd
    exact ⟨(hinside d).mp hin, hlt, fun e he hie => by
      rw [← hinside, hbefore e (Nat.zero_le e) he] at hie; exact Bool.noConfusion hie⟩
  · intro hin
    rw [← hinside, nextInScope_none hnone d (Nat.zero_le d) hd] at hin
    exact Bool.noConfusion hin
  · rw [hpayload, scopeReply_eq hset] at hanswered
    rw [hpayload, scopeReply_eq hset]
    exact hanswered

/-! ## HALT (R98) -/

theorem actHalt_of_idle {s : State} (p : List Byte) (h : s.sense.long.running = false) :
    actHalt p s = (s, .ok [0, byteOf s.sense.long.kind.code, byteOf s.sense.long.outcome.code]) := by
  unfold actHalt
  rw [h]
  rfl

/-- Settles O18, by whether a command runs; a survey gives back no records. -/
theorem haltEndsSurvey : Obligations.HaltEndsSurvey := by
  intro s m rest h hkind hpayload l
  have hlength : m.payload.length ∈ (payloadLengths 0x12).getD [] := by simp [hpayload, payloadLengths]
  refine ⟨fun hidle => ⟨_, rfl, handOn_reports h hkind hlength (actHalt_of_idle _ hidle)⟩, fun hrunning hsurvey => ?_⟩
  have hkind' : s.sense.long.kind ≠ .retest := by rw [show s.sense.long.kind = .survey from hsurvey]; exact LongKind.noConfusion
  have hact : actHalt m.payload s = (raise .longDone (endLong .halted s),
      .ok ([1, 1, 2] ++ bytesOf 3 l.tested ++ bytesOf 3 l.skipped ++ bytesOf 3 l.faults)) := by
    unfold actHalt stopLong
    rw [if_pos hrunning, if_neg hkind']
    simp only [endLong, raise_sense, State.setSense_sense, haltedCounts, show s.sense.long.kind = .survey from hsurvey,
      List.append_assoc]
    rfl
  have honly : OnlyChanges [.sense, .events] s (raise .longDone (endLong .halted s)) :=
    ((endLong_acts _ s).only.mono (by decide)).trans ((raise_acts _ _).only.mono (by decide))
  obtain ⟨hanswered, hblocks⟩ := formReply_ok (data := [1, 1, 2] ++ bytesOf 3 l.tested ++ bytesOf 3 l.skipped ++
    bytesOf 3 l.faults) h honly (by decide)
  refine ⟨_, congrArg Host.Outcome.next (handOn_of_ok h hkind hlength hact), rfl, ?_, rfl, hblocks.mono (by decide), hanswered⟩
  show (s.sense.gap.map fun e => { e with serves := false }).map _ = _
  rw [List.map_map]
  rfl

/-! ## Refusals in order (R9, R10, R91, R121, R124) -/

theorem longRefusal_cases (p : List Byte) (s : State) :
    (s.layout.status = .unset → longRefusal p s = some .wrongState) ∧
    (s.layout.status = .set → s.scan.display = .standby → longRefusal p s = some .wrongState) ∧
    (s.layout.status = .set → s.scan.display ≠ .standby → s.sense.long.running = true → longRefusal p s = some .busy) ∧
    (s.layout.status = .set → s.scan.display ≠ .standby → s.sense.long.running = false →
      scopeAccepted s.layout p = false → longRefusal p s = some .badArg) := by
  unfold longRefusal
  refine ⟨fun hunset => if_pos hunset, fun hset hasleep => ?_, fun hset hawake hrunning => ?_,
    fun hset hawake hidle hbad => ?_⟩
  · rw [if_neg (by simp [hset]), if_pos hasleep]
  · rw [if_neg (by simp [hset]), if_neg hawake, hrunning]; rfl
  · rw [if_neg (by simp [hset]), if_neg hawake, hidle, hbad]; rfl

theorem actSurvey_of_refused {p : List Byte} {s : State} {st : Status} (h : longRefusal p s = some st) :
    actSurvey p s = (s, .refuse st) := by
  simp only [actSurvey, h]

theorem actRetest_of_refused {p : List Byte} {s : State} {st : Status} (h : longRefusal p s = some st) :
    actRetest p s = (s, .refuse st) := by
  simp only [actRetest, h]

/-- The two commands with a scope, each with its action. -/
theorem scoped_handOn : ∀ e ∈ ([(.survey, 0x10), (.retest, 0x11)] : List (Instr × Byte)),
    payloadLengths e.2 = some [6] ∧ ∃ act : List Byte → State → State × Answer,
      (∀ s, exec e.1 s = .next (handOn e.2 act s)) ∧
      ∀ p s st, longRefusal p s = some st → act p s = (s, .refuse st) := by
  simp only [List.forall_mem_cons, List.not_mem_nil, false_imp_iff, implies_true, and_true]
  exact ⟨⟨rfl, actSurvey, fun _ => rfl, fun _ _ _ => actSurvey_of_refused⟩,
    ⟨rfl, actRetest, fun _ => rfl, fun _ _ _ => actRetest_of_refused⟩⟩

/-- The checks PIN and RESTORE share, in their order, and the codes each takes for its fourth byte. -/
theorem dieCommand_handOn : ∀ e ∈ ([(.pin, 0x18, 0, 1), (.restore, 0x1A, 1, 2)] : List (Instr × Byte × Byte × Byte)),
    payloadLengths e.2.1 = some [4] ∧ ∃ act : List Byte → State → State × Answer,
      (∀ s, exec e.1 s = .next (handOn e.2.1 act s)) ∧ ∀ (d0 d1 d2 k : Byte) (s : State),
        (s.layout.status = .unset → act [d0, d1, d2, k] s = (s, .refuse .wrongState)) ∧
        (s.layout.status = .set → s.layout.presentDie (sentIndex [d0, d1, d2, k]) = false →
          act [d0, d1, d2, k] s = (s, .refuse .badArg)) ∧
        (s.layout.status = .set → s.layout.presentDie (sentIndex [d0, d1, d2, k]) = true → k ≠ e.2.2.1 → k ≠ e.2.2.2 →
          act [d0, d1, d2, k] s = (s, .refuse .badArg)) := by
  have hpin : ∀ k : Byte, k ≠ 0 → k ≠ 1 → pinState k.toNat = none := by decide
  have hrestore : ∀ k : Byte, k ≠ 1 → k ≠ 2 → restoreFault k.toNat = none := by decide
  have hcode : ∀ d0 d1 d2 k : Byte, byteAt [d0, d1, d2, k] 3 = k.toNat := fun _ _ _ _ => rfl
  simp only [List.forall_mem_cons, List.not_mem_nil, false_imp_iff, implies_true, and_true]
  refine ⟨⟨rfl, actPin, fun _ => rfl, fun d0 d1 d2 k s => ⟨fun hunset => ?_, fun hset habsent => ?_, fun hset hpresent h0 h1 => ?_⟩⟩,
    ⟨rfl, actRestore, fun _ => rfl, fun d0 d1 d2 k s => ⟨fun hunset => ?_, fun hset habsent => ?_, fun hset hpresent h0 h1 => ?_⟩⟩⟩
  · simp only [actPin, hunset, if_true]
  · simp [actPin, hset, habsent]
  · simp [actPin, hset, hpresent, hcode, hpin k h0 h1]
  · simp only [actRestore, hunset, if_true]
  · simp [actRestore, hset, habsent]
  · simp [actRestore, hset, hpresent, hcode, hrestore k h0 h1]

/-- Settles O15: each command's checks in the order its action makes them. -/
theorem refusalsComeInOrder : Obligations.RefusalsComeInOrder := by
  intro s m rest p h hpayload
  refine ⟨fun hkind hlong => ⟨fun hawake => ?_, fun hasleep hbad => ?_⟩, fun e he x0 y0 x1 y1 colours dice hkind hp => ?_,
    fun e he d0 d1 d2 k hkind hp => ?_⟩
  · refine refused_of_act (st := .wrongState) h hkind (by simp [hpayload, hlong, payloadLengths]) rfl ?_
    unfold actSetLayout
    rw [if_pos hawake]
  · have hrejected : layoutAccepted p = false := by
      rw [Bool.eq_false_iff]
      exact fun hok => hbad ((layoutAccepted_iff p).mp hok)
    refine refused_of_act (st := .badArg) h hkind (by simp [hpayload, hlong, payloadLengths]) rfl ?_
    unfold actSetLayout
    rw [if_neg (not_not.mpr hasleep), hpayload, hrejected]
    rfl
  · obtain ⟨hlengths, act, hexec, hrefuses⟩ := scoped_handOn e he
    have hlength : m.payload.length ∈ (payloadLengths e.2).getD [] := by rw [hlengths, hpayload, hp]; simp
    have hrefused : ∀ {st}, longRefusal m.payload s = some st → Refused e.1 s m rest st.code := fun hst =>
      refused_of_act h hkind hlength (hexec s) (hrefuses _ _ _ hst)
    obtain ⟨hunset, hasleep, hbusy, hscope⟩ := longRefusal_cases m.payload s
    refine ⟨fun hs => hrefused (hunset hs), fun hs hd => hrefused (hasleep hs hd), fun hs hd hr => hrefused (hbusy hs hd hr),
      fun hs hd hr hmc hmr hbad => hrefused (hscope hs hd hr ?_)⟩
    rw [Bool.eq_false_iff, hpayload, hp]
    exact fun hok => hbad ((scopeAccepted_iff hs hmc hmr).mp hok)
  · intro die
    obtain ⟨hlengths, act, hexec, hchecks⟩ := dieCommand_handOn e he
    have hlength : m.payload.length ∈ (payloadLengths e.2.1).getD [] := by rw [hlengths, hpayload, hp]; simp
    have hrefused : ∀ {st}, act [d0, d1, d2, k] s = (s, .refuse st) → Refused e.1 s m rest st.code := fun hst =>
      refused_of_act h hkind hlength (hexec s) (by rw [hpayload, hp]; exact hst)
    have hdie : sentIndex [d0, d1, d2, k] = die := sentIndex_cons d0 d1 d2 [k]
    obtain ⟨hunset, habsent, hcode⟩ := hchecks d0 d1 d2 k s
    rw [hdie] at habsent hcode
    exact ⟨fun hs => hrefused (hunset hs), fun hs hd => hrefused (habsent hs hd),
      fun hs hd h1 h2 => hrefused (hcode hs hd h1 h2)⟩

end Sys2Proof.Machine
end


section
/-! PROOFS. What a round reads (R138 to R145), and what announcing a transition does block by block: the log, the Capture Unit,
the planner, the long-command slot and the counters (R97, R108, R126, R127). -/

namespace Sys2Proof.Machine

/-! ## What a round reads -/

/-- Two states a round cannot tell apart: it reads the layout, the module states, the held slots, F, the records and the
plan (R135, R140 to R145, R149). -/
structure RoundSees (s t : State) : Prop where
  layout : t.layout = s.layout
  modules : ∀ i, t.moduleState i = s.moduleState i
  held : t.capture.held = s.capture.held
  fraction : t.params.f = s.params.f
  records : t.map.records = s.map.records
  plan : t.plan = s.plan

namespace RoundSees

variable {s t u : State}

theorem refl (s : State) : RoundSees s s := ⟨rfl, fun _ => rfl, rfl, rfl, rfl, rfl⟩

theorem symm (h : RoundSees s t) : RoundSees t s :=
  ⟨h.layout.symm, fun i => (h.modules i).symm, h.held.symm, h.fraction.symm, h.records.symm, h.plan.symm⟩

theorem trans (h : RoundSees s t) (k : RoundSees t u) : RoundSees s u :=
  ⟨k.layout.trans h.layout, fun i => (k.modules i).trans (h.modules i), k.held.trans h.held,
    k.fraction.trans h.fraction, k.records.trans h.records, k.plan.trans h.plan⟩

/-- Writing the same plan keeps two states alike to a round. -/
theorem stage (h : RoundSees s t) {p q : Plan} (hplan : q = p) : RoundSees (s.setPlan p) (t.setPlan q) :=
  ⟨h.layout, h.modules, h.held, h.fraction, h.records, hplan⟩

/-- Writing the same plan and any events keeps two states alike to a round. -/
theorem write (h : RoundSees s t) {p q : Plan} (hplan : q = p) (x y : EventUnit) :
    RoundSees ((s.setPlan p).setEvents x) ((t.setPlan q).setEvents y) :=
  ⟨h.layout, h.modules, h.held, h.fraction, h.records, hplan⟩

/-- A round does not see a step that leaves alone all that it reads. -/
theorem of_only {bs : List Block} (h : OnlyChanges bs s t) (hlayout : Block.layout ∉ bs := by decide)
    (hsense : Block.sense ∉ bs := by decide) (hcapture : Block.capture ∉ bs := by decide)
    (hparams : Block.params ∉ bs := by decide) (hmap : Block.map ∉ bs := by decide)
    (hplan : Block.plan ∉ bs := by decide) : RoundSees s t where
  layout := h.layout hlayout
  modules i := by unfold State.moduleState; rw [h.sense hsense]
  held := by rw [h.capture hcapture]
  fraction := by rw [h.params hparams]
  records := by rw [h.map hmap]
  plan := h.plan hplan

section Reads
variable (h : RoundSees s t)
include h

theorem isLost (n : Nat) : t.isLost n = s.isLost n := by unfold State.isLost; rw [h.plan]

theorem onHeldSlot (n : Nat) : t.onHeldSlot n = s.onHeldSlot n := by
  unfold State.onHeldSlot State.slotHeld
  rw [h.layout, h.held]

theorem besideHeldSlot (n : Nat) : t.besideHeldSlot n = s.besideHeldSlot n := by
  unfold State.besideHeldSlot
  rw [h.layout, funext h.onHeldSlot]

theorem selectFrozen (n : Nat) (x : Select) : t.selectFrozen n x = s.selectFrozen n x := by
  unfold State.selectFrozen
  rw [h.onHeldSlot, h.besideHeldSlot, h.plan]

theorem recomputeFrozen (n : Nat) : t.recomputeFrozen n = s.recomputeFrozen n := by
  unfold State.recomputeFrozen
  rw [h.onHeldSlot, h.besideHeldSlot]

theorem dieDead (d : Nat) : t.dieDead d = s.dieDead d := by
  unfold State.dieDead State.recordState
  rw [h.records]

theorem derivedSelect (n : Nat) : t.derivedSelect n = s.derivedSelect n := by
  unfold State.derivedSelect
  rw [h.dieDead, h.dieDead, h.layout]

theorem lostNeighbours (n : Nat) : t.lostNeighbours n = s.lostNeighbours n := by
  unfold State.lostNeighbours
  rw [h.layout, funext h.isLost]

theorem candidates (n : Nat) : t.candidates n = s.candidates n := by
  have hdonate : t.canDonate = s.canDonate := by
    funext m
    have hmodule := h.modules (slotOfChannel m)
    unfold State.moduleState at hmodule
    unfold State.canDonate
    rw [h.layout, hmodule, h.isLost, h.onHeldSlot]
  unfold State.candidates
  rw [h.layout, hdonate]

theorem donors (n : Nat) : t.donors n = s.donors n := by
  unfold State.donors
  rw [h.layout, h.plan, h.candidates]

end Reads

/-! ### The moves of a round on two such states -/

theorem setDeferred (h : RoundSees s t) (n : Nat) : RoundSees (setDeferred n s) (setDeferred n t) :=
  h.stage (by rw [h.plan])

theorem setPendingSelect (h : RoundSees s t) (n : Nat) (x : Select) :
    RoundSees (setPendingSelect n x s) (setPendingSelect n x t) :=
  h.stage (by rw [h.plan])

theorem loseChannel (h : RoundSees s t) (n : Nat) : RoundSees (loseChannel n s) (loseChannel n t) :=
  h.write (by unfold Machine.setPendingSelect; rw [raise_plan, raise_plan, State.setPlan_plan, State.setPlan_plan, h.plan])
    (s.events.raised .lost) (t.events.raised .lost)

theorem regainChannel (h : RoundSees s t) (n : Nat) (x : Select) :
    RoundSees (regainChannel n x s) (regainChannel n x t) := by
  rw [regainChannel_eq, regainChannel_eq]
  exact h.stage (by rw [h.plan, h.layout])

theorem recompute (h : RoundSees s t) (n : Nat) : RoundSees (recompute n s) (recompute n t) := by
  rw [recompute_eq, recompute_eq]
  refine h.write ?_ _ _
  unfold State.boostAfter State.shortfallAfter
  rw [h.donors, h.plan, h.layout, h.fraction]

theorem recomputeOrDefer (h : RoundSees s t) (n : Nat) : RoundSees (recomputeOrDefer s n) (recomputeOrDefer t n) := by
  unfold Machine.recomputeOrDefer
  rw [h.isLost, h.recomputeFrozen]
  split
  · exact h
  · split
    · exact h.setDeferred n
    · exact h.recompute n

theorem recomputes (h : RoundSees s t) (l : List Nat) :
    RoundSees (l.foldl Machine.recomputeOrDefer s) (l.foldl Machine.recomputeOrDefer t) := by
  induction l generalizing s t with
  | nil => exact h
  | cons n l ih => exact ih (h.recomputeOrDefer n)

theorem deriveOne (h : RoundSees s t) (set : IndexSet) (n : Nat) :
    RoundSees (deriveOne (s, set) n).1 (deriveOne (t, set) n).1 ∧
      (Machine.deriveOne (t, set) n).2 = (Machine.deriveOne (s, set) n).2 := by
  by_cases hfrozen : s.selectFrozen n (s.derivedSelect n) = true
  · rw [deriveOne_of_frozen (acc := (s, set)) hfrozen,
      deriveOne_of_frozen (acc := (t, set)) (by rw [h.derivedSelect, h.selectFrozen]; exact hfrozen)]
    exact ⟨h.setDeferred n, rfl⟩
  · have hfree : s.selectFrozen n (s.derivedSelect n) = false := by simpa using hfrozen
    have hfree' : t.selectFrozen n (t.derivedSelect n) = false := by rw [h.derivedSelect, h.selectFrozen]; exact hfree
    have hselect : t.plan.selectOf n = s.plan.selectOf n := by rw [h.plan]
    by_cases hsame : s.derivedSelect n = s.plan.selectOf n
    · rw [deriveOne_of_same (acc := (s, set)) hfree hsame,
        deriveOne_of_same (acc := (t, set)) hfree' (by rw [h.derivedSelect, hselect]; exact hsame)]
      exact ⟨h, rfl⟩
    · have hsame' : t.derivedSelect n ≠ t.plan.selectOf n := by rw [h.derivedSelect, hselect]; exact hsame
      by_cases hoff : s.derivedSelect n = .off
      · rw [deriveOne_of_lost (acc := (s, set)) hfree hsame hoff,
          deriveOne_of_lost (acc := (t, set)) hfree' hsame' (by rw [h.derivedSelect]; exact hoff)]
        dsimp only
        rw [(h.loseChannel n).lostNeighbours]
        exact ⟨h.loseChannel n, rfl⟩
      · have hoff' : t.derivedSelect n ≠ .off := by rw [h.derivedSelect]; exact hoff
        by_cases hwas : s.plan.selectOf n = .off
        · rw [deriveOne_of_regained (acc := (s, set)) hfree hsame hwas,
            deriveOne_of_regained (acc := (t, set)) hfree' hsame' (hselect.trans hwas)]
          dsimp only
          rw [h.derivedSelect, (h.regainChannel n _).lostNeighbours]
          exact ⟨h.regainChannel n _, rfl⟩
        · rw [deriveOne_of_swapped (acc := (s, set)) hfree hsame hoff hwas,
            deriveOne_of_swapped (acc := (t, set)) hfree' hsame' hoff' (by rw [hselect]; exact hwas)]
          dsimp only
          rw [h.derivedSelect]
          exact ⟨h.setPendingSelect n _, rfl⟩

theorem derive (h : RoundSees s t) (l : List Nat) (set : IndexSet) :
    RoundSees (l.foldl Machine.deriveOne (s, set)).1 (l.foldl Machine.deriveOne (t, set)).1 ∧
      (l.foldl Machine.deriveOne (t, set)).2 = (l.foldl Machine.deriveOne (s, set)).2 := by
  induction l generalizing s t set with
  | nil => exact ⟨h, rfl⟩
  | cons n l ih =>
    obtain ⟨hone, hset⟩ := h.deriveOne set n
    have hrest := ih hone (Machine.deriveOne (s, set) n).2
    rw [List.foldl_cons, List.foldl_cons, ← Prod.mk.eta (p := Machine.deriveOne (t, set) n), hset]
    exact hrest

/-- A round of two states it cannot tell apart leaves the same plan. -/
theorem takeRound_plan (h : RoundSees s t) (a b : List Nat) : (takeRound a b t).plan = (takeRound a b s).plan := by
  obtain ⟨hderived, hset⟩ := h.derive a (IndexSet.addAll [] b)
  have hend : RoundSees (roundEnd a b s) (roundEnd a b t) := by
    unfold roundEnd
    rw [hset]
    have htwo := hderived.recomputes (a.foldl Machine.deriveOne (s, IndexSet.addAll [] b)).2.keys
    unfold phaseThree
    rw [htwo.plan]
    exact htwo.recomputes _
  rw [takeRound_eq, takeRound_eq]
  unfold markEdited
  rw [State.setPlan_plan, State.setPlan_plan, h.plan, hend.plan]

end RoundSees

/-! ## What a round counts -/

/-- A round counts the boosts it refuses and nothing else (R144). -/
theorem takeRound_counter {c : Counter} (h : c ≠ .boostDrops) (a b : List Nat) (s : State) :
    (takeRound a b s).events.counter c = s.events.counter c := by
  refine RoundKeeps.roundEnd (P := fun u => u.events.counter c = s.events.counter c) ?_ a b rfl
  refine ⟨fun _ _ hu => hu, fun n u _ hu => ?_, fun _ _ hu => hu, fun n x u _ hu => ?_, fun _ _ _ _ hu => hu⟩
  · rw [recompute_events]
    unfold State.eventsAfter EventUnit.donorsTaken
    dsimp only
    split
    · exact hu
    · have hcounted : (if (u.donors n).2 = 0 then u.events
          else (u.events.countedTimes .boostDrops (u.donors n).2).raised .boostFull).counter c = s.events.counter c := by
        split
        · exact hu
        · rw [EventUnit.raised_counter, EventUnit.countedTimes_counter_of_ne h, hu]
      split
      · exact hcounted
      · exact hcounted
  · rw [regainChannel_eq]
    exact hu

/-! ## The Transition Queue -/

@[simp] theorem appended_nil {q : List Transition} (h : q.length ≤ 64) : appended q [] = q := by
  unfold appended
  rw [List.length_nil, Nat.add_zero, Nat.sub_eq_zero_of_le h, List.append_nil, List.drop_zero]

/-- Entries appended in two goes are as appended in one. -/
theorem appended_append (q a b : List Transition) : appended (appended q a) b = appended q (a ++ b) := by
  have hk : q.length + a.length - 64 ≤ (q ++ a).length := by rw [List.length_append]; omega
  unfold appended
  rw [List.length_drop, ← List.append_assoc, ← List.drop_append_of_le_length hk, List.drop_drop]
  congr 1
  simp only [List.length_append]
  omega

theorem length_appended_le (q a : List Transition) : (appended q a).length ≤ 64 := by
  unfold appended
  rw [List.length_drop, List.length_append]
  omega

/-- A transition logged in a queue within its capacity (R127). -/
theorem appendTransition_queue (t : Transition) {s : State} (h : s.map.queue.length ≤ 64) :
    (appendTransition t s).map.queue = appended s.map.queue [t] := by
  unfold appendTransition appended
  dsimp only
  by_cases hroom : s.map.queue.length < Config.transitionCapacity
  · have hnone : s.map.queue.length + [t].length - 64 = 0 := by
      change s.map.queue.length < 64 at hroom
      rw [List.length_singleton]
      omega
    rw [if_pos hroom, hnone]
    split <;> rfl
  · have hone : s.map.queue.length + [t].length - 64 = 1 := by
      change ¬ s.map.queue.length < 64 at hroom
      rw [List.length_singleton]
      omega
    have hdrop : (s.map.queue ++ [t]).drop 1 = s.map.queue.drop 1 ++ [t] :=
      List.drop_append_of_le_length (by change ¬ s.map.queue.length < 64 at hroom; omega)
    rw [if_neg hroom, hone, hdrop]
    rfl

/-! ## Announcing a transition, told by told (R108) -/

/-- A transition logged, told to the Event Unit and offered to the Capture Unit: what comes before the planner. -/
def tellLog (k : TransitionKind) (d : Nat) (f : DieFault) (s : State) : State :=
  let t : Transition := { kind := k, die := d, fault := f, pass := s.scan.passNumber }
  offerCapture t (kindEffects k (appendTransition t s))

section Announce
variable (k : TransitionKind) (d : Nat) (f : DieFault) (a b : Bool) (s : State)

theorem announce_eq : announce k d f a b s =
    if b then retestLeft k (if a then takeRound [dieChannel d] [] (tellLog k d f s) else tellLog k d f s)
    else if a then takeRound [dieChannel d] [] (tellLog k d f s) else tellLog k d f s := rfl

theorem tellLog_acts : Acts [.map, .capture, .events] s (tellLog k d f s) :=
  ((appendTransition_acts _ s).mono (by decide)).trans
    (((kindEffects_acts k _).mono (by decide)).trans ((offerCapture_acts _ _).mono (by decide)))

@[simp] theorem tellLog_records : (tellLog k d f s).map.records = s.map.records := by
  unfold tellLog
  dsimp only
  rw [offerCapture_map, kindEffects_map, appendTransition_records]

@[simp] theorem tellLog_plan : (tellLog k d f s).plan = s.plan := (tellLog_acts k d f s).only.plan
@[simp] theorem tellLog_sense : (tellLog k d f s).sense = s.sense := (tellLog_acts k d f s).only.sense
@[simp] theorem tellLog_layout : (tellLog k d f s).layout = s.layout := (tellLog_acts k d f s).only.layout
@[simp] theorem tellLog_scan : (tellLog k d f s).scan = s.scan := (tellLog_acts k d f s).only.scan

theorem announce_queue (h : s.map.queue.length ≤ 64) : (announce k d f a b s).map.queue =
    appended s.map.queue [{ kind := k, die := d, fault := f, pass := s.scan.passNumber }] := by
  rw [announce_map, appendTransition_queue _ h]

/-! ### The Capture Unit -/

theorem announce_capture : (announce k d f a b s).capture = (tellLog k d f s).capture := by
  have hleft : ∀ u, (retestLeft k u).capture = u.capture := fun u => (retestLeft_acts k u).only.capture
  rw [announce_eq]
  cases a <;> cases b <;> simp [hleft]

theorem announce_captureState_of_unarmed (h : s.capture.state ≠ .armed) : (announce k d f a b s).capture = s.capture := by
  have hlog : (kindEffects k (appendTransition { kind := k, die := d, fault := f, pass := s.scan.passNumber } s)).capture =
      s.capture := ((kindEffects_acts k _).only.capture).trans (appendTransition_acts _ s).only.capture
  rw [announce_capture]
  unfold tellLog offerCapture
  dsimp only
  rw [hlog, if_neg (fun harmed => h harmed.1), hlog]

/-! ### The planner -/

variable {s} in
theorem roundSees_tellLog (h : s.capture.state ≠ .armed) : RoundSees s (tellLog k d f s) where
  layout := tellLog_layout k d f s
  modules i := by unfold State.moduleState; rw [tellLog_sense]
  held := by rw [← announce_capture k d f false false s, announce_captureState_of_unarmed k d f _ _ s h]
  fraction := by rw [(tellLog_acts k d f s).only.params]
  records := tellLog_records k d f s
  plan := tellLog_plan k d f s

variable {s}

/-- With no capture ARMED a changed standing leaves the plan of its round (R139). -/
theorem announce_plan_of_changed (h : s.capture.state ≠ .armed) :
    (announce k d f true b s).plan = (takeRound [dieChannel d] [] s).plan := by
  have hround := (roundSees_tellLog k d f h).takeRound_plan [dieChannel d] []
  have hleft : ∀ u, (retestLeft k u).plan = u.plan := fun u => (retestLeft_acts k u).only.plan
  rw [announce_eq, ← hround]
  cases b <;> simp [hleft]

/-- What a derived select rests on: the layout and the records. -/
theorem derivedSelect_of_records {t : State} (hlayout : t.layout = s.layout) (hrecords : t.map.records = s.map.records)
    (n : Nat) : t.derivedSelect n = s.derivedSelect n := by
  unfold State.derivedSelect State.dieDead State.recordState
  rw [hlayout, hrecords]

/-- With no capture ARMED and nothing held a changed standing leaves its channel at its derived select (R139, R140). -/
theorem announce_selectOf (h : s.capture.state ≠ .armed) (hheld : s.capture.held = 0) :
    (announce k d f true b s).plan.selectOf (dieChannel d) = s.derivedSelect (dieChannel d) := by
  rw [announce_plan_of_changed k d f b h, takeRound_selectOf _ _ _ hheld, if_pos (List.mem_singleton.mpr rfl)]

/-! ### The long-command slot -/

/-- A record that left RETEST while others remain is counted (R97). -/
theorem announce_sense_of_left (h : s.anyRetest = true) :
    (announce k d f a true s).sense = { s.sense with long := s.sense.long.counted k } := by
  have hany : ∀ u : State, u.map.records = s.map.records → u.sense = s.sense →
      (retestLeft k u).sense = { s.sense with long := s.sense.long.counted k } := by
    intro u hrecords hsense
    have hretest : (setLong (u.sense.long.counted k) u).anyRetest = true := by
      show (u.map.records.any _) = true
      rw [hrecords]; exact h
    unfold retestLeft
    dsimp only
    rw [hretest, if_neg (by simp)]
    unfold setLong
    rw [State.setSense_sense, hsense]
  rw [announce_eq]
  cases a <;> exact hany _ (by simp) (by simp)

/-- A record that left RETEST by abandonment is counted and ends nothing (R97). -/
theorem announce_sense_of_abandoned : (announce .retestAbandoned d f a true s).sense =
    { s.sense with long := { s.sense.long with abandoned := s.sense.long.abandoned + 1 } } := by
  have habandoned : ∀ u : State, u.sense = s.sense → (retestLeft .retestAbandoned u).sense =
      { s.sense with long := { s.sense.long with abandoned := s.sense.long.abandoned + 1 } } := by
    intro u hsense
    unfold retestLeft
    dsimp only
    rw [if_neg (by simp)]
    unfold setLong
    rw [State.setSense_sense, hsense]
    rfl
  rw [announce_eq]
  cases a <;> exact habandoned _ (by simp)

/-- The last record that leaves RETEST is counted, and the RETEST ends COMPLETE (R97). -/
theorem announce_sense_of_last (hk : k ≠ .retestAbandoned) (h : s.anyRetest = false) :
    (announce k d f a true s).sense.long = { s.sense.long.counted k with running := false, outcome := .complete } ∧
      (announce k d f a true s).events.pends .longDone = true := by
  have hlast : ∀ u : State, u.map.records = s.map.records → u.sense = s.sense →
      (retestLeft k u).sense.long = { s.sense.long.counted k with running := false, outcome := .complete } ∧
        (retestLeft k u).events.pends .longDone = true := by
    intro u hrecords hsense
    have hretest : (setLong (u.sense.long.counted k) u).anyRetest = false := by
      show (u.map.records.any _) = false
      rw [hrecords]; exact h
    unfold retestLeft
    dsimp only
    rw [hretest, if_pos ⟨hk, rfl⟩, ← hsense]
    exact ⟨rfl, EventUnit.pends_raised _ _⟩
  rw [announce_eq]
  cases a <;> exact hlast _ (by simp) (by simp)

/-! ### Events and counters -/

/-- The counter a transition's kind counts, besides those of the queue and the capture (R126). -/
def TransitionKind.counter : TransitionKind → Option Counter
  | .confirmed | .reconfirmed => some .confirmations
  | .transient => some .transients
  | .evicted => some .evictions
  | .newSuspect | .retestBegun | .retestAbandoned | .restored | .pinned | .unpinned | .loaded => none

theorem kindEffects_counter (c : Counter) : (kindEffects k s).events.counter c =
    s.events.counter c + if k.counter = some c then 1 else 0 := by
  have hcount : ∀ (u : EventUnit) (e : Counter), (u.counted e).counter c = u.counter c + if e = c then 1 else 0 := by
    intro u e
    by_cases h : e = c
    · rw [if_pos h, ← h, EventUnit.counted_counter_self]
    · rw [if_neg h, EventUnit.counted_counter_of_ne _ _ (Ne.symm h), add_zero]
  cases k with
  | confirmed | reconfirmed | transient | evicted =>
    simp only [kindEffects, TransitionKind.counter, Option.some.injEq]
    exact hcount _ _
  | newSuspect | retestBegun | retestAbandoned | restored | pinned | unpinned | loaded =>
    exact (add_zero _).symm

variable (s)

theorem appendTransition_counter {c : Counter} (h : c ≠ .transitionOverflow) (t : Transition) :
    (appendTransition t s).events.counter c = s.events.counter c := by
  unfold appendTransition
  dsimp only
  split
  · split <;> rfl
  · exact EventUnit.counted_counter_of_ne _ _ h

theorem offerCapture_counter {c : Counter} (h : c ≠ .captureOverwrites) (t : Transition) :
    (offerCapture t s).events.counter c = s.events.counter c := by
  unfold offerCapture captureMatch
  dsimp only
  split
  · show (State.events (ite _ _ _)).counter c = _
    split
    · exact EventUnit.counted_counter_of_ne _ _ h
    · rfl
  · rfl

theorem retestLeft_counter (c : Counter) : (retestLeft k s).events.counter c = s.events.counter c := by
  unfold retestLeft
  dsimp only
  split <;> rfl

/-- What an announcement counts: what its kind counts, and no more but a full queue, an overwritten snapshot and refused
boosts. -/
theorem announce_counter {c : Counter} (hqueue : c ≠ .transitionOverflow) (hcapture : c ≠ .captureOverwrites)
    (hboost : c ≠ .boostDrops) : (announce k d f a b s).events.counter c =
      s.events.counter c + if k.counter = some c then 1 else 0 := by
  have hlog : (tellLog k d f s).events.counter c = s.events.counter c + if k.counter = some c then 1 else 0 := by
    unfold tellLog
    dsimp only
    rw [offerCapture_counter _ hcapture, kindEffects_counter, appendTransition_counter _ hqueue]
  rw [announce_eq]
  cases a <;> cases b <;> simp only [Bool.false_eq_true, if_false, if_true, retestLeft_counter, takeRound_counter hboost, hlog]

end Announce

/-! ## Making room (R119, R120) -/

section MakeRoom
variable {s : State}

theorem makeRoom_of_room (h : s.map.records.length < 1024) : makeRoom s = some s := if_pos h

theorem makeRoom_of_full (h : s.map.records.length = 1024) : makeRoom s =
    (evictee s.scan.passNumber s.map.records).map fun e =>
      announce .evicted e.1 e.2.fault false false (dropRecord e.1 s) := by
  unfold makeRoom
  rw [if_neg (by rw [h]; decide)]
  cases evictee s.scan.passNumber s.map.records <;> rfl

end MakeRoom

end Sys2Proof.Machine
end


section
/-! PROOFS. PIN, UNPIN and RESTORE (R121 to R124): the record set or removed, its transition logged, and the planner told. -/

namespace Sys2Proof.Machine

/-! ## A record stored or removed, and announced -/

/-- Whether a record of another die is in state RETEST. -/
def State.otherRetest (s : State) (die : Nat) : Bool := s.map.records.any fun e => decide (e.1 ≠ die ∧ e.2.state = .retest)

section Stored
variable {s : State} {die : Nat} {r : DefectRecord}

theorem Table.fetch_store {α : Type} (t : Table α) (k j : Nat) (v : α) :
    Table.fetch (Table.store t k v) j = if j = k then some v else Table.fetch t j := Table.fetch_assign t k j (some v)

theorem Table.fetch_discard {α : Type} (t : Table α) (k j : Nat) :
    Table.fetch (Table.discard t k) j = if j = k then none else Table.fetch t j := Table.fetch_assign t k j none

/-- A member of a canonical table in which a key has been stored: the stored entry or one of another key. -/
theorem Table.mem_store_iff {α : Type} {t : Table α} (h : Table.canonical t = true) (k : Nat) (v : α) (e : Nat × α) :
    e ∈ Table.store t k v ↔ e = (k, v) ∨ e.1 ≠ k ∧ e ∈ t := by
  obtain ⟨j, w⟩ := e
  rw [← Table.fetch_eq_some_iff (Table.canonical_store k v h), ← Table.fetch_eq_some_iff h, Table.fetch_store]
  by_cases hj : j = k
  · simp [hj, eq_comm]
  · simp [hj]

theorem anyRetest_putRecord (h : Table.canonical s.map.records = true) (hr : r.state ≠ .retest) :
    (putRecord die r s).anyRetest = s.otherRetest die := by
  rw [Bool.eq_iff_iff]
  unfold State.anyRetest State.otherRetest
  rw [putRecord_records]
  simp only [List.any_eq_true, decide_eq_true_eq, Table.mem_store_iff h]
  constructor
  · rintro ⟨e, rfl | ⟨hne, he⟩, hretest⟩
    · exact absurd hretest hr
    · exact ⟨e, he, hne, hretest⟩
  · rintro ⟨e, he, hne, hretest⟩
    exact ⟨e, Or.inr ⟨hne, he⟩, hretest⟩

theorem anyRetest_dropRecord : (dropRecord die s).anyRetest = s.otherRetest die := by
  rw [Bool.eq_iff_iff]
  unfold State.anyRetest State.otherRetest
  rw [dropRecord_records]
  simp only [List.any_eq_true, decide_eq_true_eq, Table.discard, List.mem_filter, bne_iff_ne]
  constructor
  · rintro ⟨e, ⟨he, hne⟩, hretest⟩
    exact ⟨e, he, hne, hretest⟩
  · rintro ⟨e, he, hne, hretest⟩
    exact ⟨e, ⟨he, hne⟩, hretest⟩

/-- A state that differs from `s` in its records alone is seen by a round as `s` with those records. -/
theorem roundSees_setMap {u : State} (h : OnlyChanges [.map] s u) {x : DefectMap} (hx : x.records = u.map.records) :
    RoundSees u (s.setMap x) where
  layout := h.layout.symm
  modules i := by unfold State.moduleState; rw [h.sense]; rfl
  held := by rw [h.capture]; rfl
  fraction := by rw [h.params]; rfl
  records := hx
  plan := h.plan.symm

/-- The planner answers a changed standing on the records as they stand, after an edit `u` of the records of `s` (R108). -/
theorem announce_edit_plan {u t : State} (h : OnlyChanges [.map] s u) (hunarmed : s.capture.state ≠ .armed)
    (k : TransitionKind) (f : DieFault) (b : Bool) (ht : t = announce k die f true b u) :
    t.plan = (takeRound [dieChannel die] [] (s.setMap t.map)).plan ∧
      (s.capture.held = 0 → t.plan.selectOf (dieChannel die) = t.derivedSelect (dieChannel die)) := by
  have hcapture := h.capture
  have hunarmed' : u.capture.state ≠ .armed := by rw [hcapture]; exact hunarmed
  subst ht
  refine ⟨?_, fun hheld => ?_⟩
  · rw [announce_plan_of_changed k die f b hunarmed']
    exact ((roundSees_setMap h (announce_records _ _ _ _ _ _)).takeRound_plan _ _).symm
  · rw [announce_selectOf k die f b hunarmed' (by rw [hcapture]; exact hheld)]
    exact (derivedSelect_of_records (announce_layout _ _ _ _ _ _) (announce_records _ _ _ _ _ _) _).symm

variable {c : Instr} {kind : Byte} {act : List Byte → State → State × Answer} {m : Message} {rest : List Message}

/-- A command that sets the record of a die, as PIN and RESTORE do (R122, R124): the map, the log, the plan, the long-command
slot and the reply. -/
theorem exec_setsRecord {k : TransitionKind} {f : DieFault} {a left : Bool} {u : State} (h : Handing s m rest)
    (hkind : m.kind = kind) (hlength : m.payload.length ∈ (payloadLengths kind).getD [])
    (hexec : exec c s = .next (handOn kind act s)) (hact : act m.payload s = (u, .ok (replyRecord die u)))
    (hu : u = announce k die f a left (putRecord die r s)) (hqueue : s.map.queue.length ≤ 64) (hk : k ≠ .retestAbandoned)
    (hr : r.state ≠ .retest) : ∃ t, exec c s = .next t ∧
      (∀ d, Table.fetch t.map.records d = if d = die then some r else Table.fetch s.map.records d) ∧
      t.map.queue = appended s.map.queue [{ kind := k, die := die, fault := f, pass := s.scan.passNumber }] ∧
      (a = false → t.plan = s.plan) ∧
      (a = true → s.capture.state ≠ .armed → t.plan = (takeRound [dieChannel die] [] (s.setMap t.map)).plan ∧
        (s.capture.held = 0 → t.plan.selectOf (dieChannel die) = t.derivedSelect (dieChannel die))) ∧
      OnlyChanges (.control :: dieBlocks) s t ∧ Answered s t m rest (0 :: recordBytes die r) ∧
      (left = false → t.sense = s.sense) ∧
      (left = true → Table.canonical s.map.records = true →
        (s.otherRetest die = true → t.sense.long = s.sense.long.counted k) ∧
        (s.otherRetest die = false → t.events.pends .longDone = true ∧
          t.sense.long = { s.sense.long.counted k with running := false, outcome := .complete })) := by
  have honly : OnlyChanges dieBlocks s u := by
    rw [hu]; exact ((putRecord_acts _ _ _).trans (announce_acts _ _ _ _ _ _)).only
  have hfetch : ∀ d, Table.fetch u.map.records d = if d = die then some r else Table.fetch s.map.records d := fun d => by
    rw [hu, announce_records, putRecord_records, Table.fetch_store]
  have hreply : replyRecord die u = recordBytes die r := by
    unfold replyRecord
    rw [hfetch, if_pos rfl]
  rw [hreply] at hact
  obtain ⟨hanswer, hframe⟩ := formReply_ok (data := recordBytes die r) h honly (by decide)
  refine ⟨_, hexec.trans (congrArg Host.Outcome.next (handOn_of_ok h hkind hlength hact)), hfetch, ?_, ?_, ?_,
    hframe, hanswer, ?_, ?_⟩
  · rw [formReply_map, hu, announce_queue _ _ _ _ _ _ (by exact hqueue)]
    rfl
  · intro hsame
    rw [formReply_plan, hu, hsame, announce_plan_of_unchanged, putRecord_plan]
  · intro hchanged hunarmed
    subst hchanged
    exact announce_edit_plan (t := u) (u := putRecord die r s) (setMap_acts s _).only hunarmed k f left hu
  · intro hstayed
    rw [formReply_sense, hu, hstayed, announce_sense_of_stayed, putRecord_sense]
  · intro hleft hcanonical
    subst hleft
    have hany := anyRetest_putRecord (die := die) hcanonical hr
    refine ⟨fun hothers => ?_, fun hnone => ?_⟩
    · rw [formReply_sense, hu, announce_sense_of_left k die f a (hany.trans hothers)]
      rfl
    · rw [formReply_sense, formReply_events, hu]
      obtain ⟨hlong, hpends⟩ := announce_sense_of_last k die f a hk (hany.trans hnone)
      exact ⟨hpends, hlong⟩

end Stored

/-! ## PIN (R122) -/

section Pin
variable {s : State} {d0 d1 d2 k : Byte}

/-- The state a PIN gives, by its code (R189). -/
def pinned (k : Byte) : RecordState := if k = 0 then .pinnedDead else .pinnedGood

theorem pinned_dead (k : Byte) : (pinned k).dead = decide (k = 0) := by
  unfold pinned
  by_cases h : k = 0
  · rw [if_pos h, decide_eq_true h]; rfl
  · rw [if_neg h, decide_eq_false h]; rfl

theorem pinned_ne_retest (k : Byte) : pinned k ≠ .retest := by
  unfold pinned
  split <;> exact fun h => RecordState.noConfusion h

theorem pinState_eq (hk : k = 0 ∨ k = 1) : pinState k.toNat = some (pinned k) := by
  obtain rfl | rfl := hk <;> rfl

theorem actPin_of_accepted (hk : k = 0 ∨ k = 1) (hset : s.layout.status = .set)
    (hpresent : s.layout.presentDie (sentIndex [d0, d1, d2, k]) = true) :
    actPin [d0, d1, d2, k] s = acceptPin (sentIndex [d0, d1, d2, k]) (pinned k) s := by
  have hcode : byteAt [d0, d1, d2, k] 3 = k.toNat := rfl
  unfold actPin
  rw [if_neg (by rw [hset]; decide), hpresent, hcode, pinState_eq hk]
  rfl

theorem acceptPin_of_record {die : Nat} {x : RecordState} {r : DefectRecord} (h : Table.fetch s.map.records die = some r) :
    acceptPin die x s = (pinRecord die x r s, .ok (replyRecord die (pinRecord die x r s))) := by
  unfold acceptPin
  rw [h]

/-- A PIN that creates its record in a map with room. -/
theorem acceptPin_of_new {die : Nat} {x : RecordState} (h : Table.fetch s.map.records die = none)
    (hroom : s.map.records.length < 1024) {u : State} (hu : u = announce .pinned die .none x.dead false
      (putRecord die (hostRecord x .none .hostPin s.scan.passNumber) s)) :
    acceptPin die x s = (u, .ok (replyRecord die u)) := by
  subst hu
  unfold acceptPin
  rw [h, makeRoom_of_room hroom]

theorem dieDead_of_none {die : Nat} (h : Table.fetch s.map.records die = none) : s.dieDead die = false := by
  unfold State.dieDead State.recordState
  rw [h]
  rfl

theorem dieDead_of_some {die : Nat} {r : DefectRecord} (h : Table.fetch s.map.records die = some r) :
    s.dieDead die = r.state.dead := by
  unfold State.dieDead State.recordState
  rw [h]
  rfl

end Pin

/-- Settles O20: the cases of R122, each through the record it sets. -/
theorem pinSetsRecord : Obligations.PinSetsRecord := by
  intro s m rest d0 d1 d2 k h hkind hpayload hk die hset hpresent hqueue x now l others sets
  have hdie : sentIndex [d0, d1, d2, k] = die := sentIndex_cons d0 d1 d2 [k]
  have hlength : m.payload.length ∈ (payloadLengths 0x18).getD [] := by rw [hpayload]; exact List.mem_singleton.mpr rfl
  have hact : actPin m.payload s = acceptPin die x s := by
    rw [hpayload, actPin_of_accepted hk hset (by rw [hdie]; exact hpresent), hdie]
    rfl
  refine ⟨fun hnone hroom => ?_, fun r hr hne => ?_, fun r hr hsame => ?_⟩
  · obtain ⟨t, hexec, hrecords, hlog, hsame, hchanged, hrest⟩ := exec_setsRecord (c := .pin) (left := false) h hkind hlength rfl
      (hact.trans (acceptPin_of_new hnone hroom rfl)) rfl hqueue (by decide) (pinned_ne_retest k)
    have hdead : s.dieDead die = decide (k = 0) ↔ x.dead = false := by
      rw [dieDead_of_none hnone, ← pinned_dead]
      exact eq_comm
    exact ⟨t, hexec, hrecords, hlog, fun hd => hsame (hdead.mp hd),
      fun hd => hchanged (by rw [← Bool.not_eq_false]; exact fun hx => hd (hdead.mpr hx)), hrest⟩
  · have hpin : pinRecord die x r s = announce .pinned die r.fault (r.state.dead != x.dead) (decide (r.state = .retest))
        (putRecord die { r.enter x now with source := .hostPin } s) := if_neg hne
    obtain ⟨t, hexec, hrecords, hlog, hsame, hchanged, hrest⟩ := exec_setsRecord (c := .pin) h hkind hlength rfl
      (hact.trans (acceptPin_of_record hr)) hpin hqueue (by decide) (pinned_ne_retest k)
    have hdead : s.dieDead die = decide (k = 0) ↔ (r.state.dead != x.dead) = false := by
      rw [dieDead_of_some hr, ← pinned_dead, bne_eq_false_iff_eq]
      exact Iff.rfl
    exact ⟨t, hexec, hrecords, hlog, fun hd => hsame (hdead.mp hd),
      fun hd => hchanged (by rw [← Bool.not_eq_false]; exact fun hx => hd (hdead.mpr hx)), hrest⟩
  · have hpin : pinRecord die x r s = s := if_pos hsame
    have hreply : replyRecord die s = recordBytes die r := by unfold replyRecord; rw [hr]
    rw [acceptPin_of_record hr, hpin, hreply] at hact
    obtain ⟨hanswer, hframe⟩ := formReply_ok (data := recordBytes die r) h (OnlyChanges.refl [] s) (by decide)
    exact ⟨_, congrArg Host.Outcome.next (handOn_of_ok h hkind hlength hact), hanswer, hframe⟩

/-! ## RESTORE (R124) -/

section Restore
variable {s : State} {d0 d1 d2 k : Byte}

/-- The fault a RESTORE loads, by its code (R189). -/
def loadedFault (k : Byte) : DieFault := if k = 1 then .opened else .shorted

theorem actRestore_of_accepted (hk : k = 1 ∨ k = 2) (hset : s.layout.status = .set)
    (hpresent : s.layout.presentDie (sentIndex [d0, d1, d2, k]) = true) :
    actRestore [d0, d1, d2, k] s = acceptRestore (sentIndex [d0, d1, d2, k]) (loadedFault k) s := by
  have hcode : byteAt [d0, d1, d2, k] 3 = k.toNat := rfl
  have hfault : restoreFault k.toNat = some (loadedFault k) := by obtain rfl | rfl := hk <;> rfl
  unfold actRestore
  rw [if_neg (by rw [hset]; decide), hpresent, hcode, hfault]
  rfl

variable {die : Nat} {f : DieFault} {r : DefectRecord}

theorem acceptRestore_of_open (h : Table.fetch s.map.records die = some r) (hopen : r.state = .suspect ∨ r.state = .retest) :
    acceptRestore die f s = (loadRecord die f r s, .ok (replyRecord die (loadRecord die f r s))) := by
  unfold acceptRestore
  obtain hstate | hstate := hopen <;> simp only [h, hstate]

theorem acceptRestore_of_confirmed (h : Table.fetch s.map.records die = some r) (hstate : r.state = .confirmed) :
    acceptRestore die f s = (s, .ok (recordBytes die r)) := by
  unfold acceptRestore replyRecord
  simp only [h, hstate]

theorem acceptRestore_of_pinned (h : Table.fetch s.map.records die = some r)
    (hpinned : r.state = .pinnedDead ∨ r.state = .pinnedGood) : acceptRestore die f s = (s, .refuse .wrongState) := by
  unfold acceptRestore
  obtain hstate | hstate := hpinned <;> simp only [h, hstate]

/-- A RESTORE that creates its record in a map with room. -/
theorem acceptRestore_of_new (h : Table.fetch s.map.records die = none) (hroom : s.map.records.length < 1024) {u : State}
    (hu : u = announce .loaded die f true false (putRecord die (hostRecord .confirmed f .loaded s.scan.passNumber) s)) :
    acceptRestore die f s = (u, .ok (replyRecord die u)) := by
  subst hu
  unfold acceptRestore
  rw [h, makeRoom_of_room hroom]

end Restore

/-- Settles O24: the cases of R124, each through the record it sets. -/
theorem restoreLoadsRecord : Obligations.RestoreLoadsRecord := by
  intro s m rest d0 d1 d2 k h hkind hpayload hk die hset hpresent hqueue f now l others sets
  have hdie : sentIndex [d0, d1, d2, k] = die := sentIndex_cons d0 d1 d2 [k]
  have hlength : m.payload.length ∈ (payloadLengths 0x1A).getD [] := by rw [hpayload]; exact List.mem_singleton.mpr rfl
  have hact : actRestore m.payload s = acceptRestore die f s := by
    rw [hpayload, actRestore_of_accepted hk hset (by rw [hdie]; exact hpresent), hdie]
    rfl
  refine ⟨fun hnone hroom => ?_, fun r hr => ⟨fun hopen => ?_, fun hstate => ?_, fun hpinned => ?_⟩⟩
  · obtain ⟨t, hexec, hrecords, hlog, -, hchanged, hrest⟩ := exec_setsRecord (c := .restore) (left := false) h hkind hlength
      rfl (hact.trans (acceptRestore_of_new hnone hroom rfl)) rfl hqueue (by decide) (fun hstate => RecordState.noConfusion hstate)
    refine ⟨t, hexec, hrecords, hlog, fun hdead => ?_, fun _ => hchanged rfl, hrest⟩
    rw [dieDead_of_none hnone] at hdead
    exact absurd hdead Bool.false_ne_true
  · obtain ⟨t, hexec, hrecords, hlog, hsame, hchanged, hrest⟩ := exec_setsRecord (c := .restore) h hkind hlength
      rfl (hact.trans (acceptRestore_of_open hr hopen)) rfl hqueue (by decide) (fun hstate => RecordState.noConfusion hstate)
    rw [← dieDead_of_some hr] at hsame hchanged
    exact ⟨t, hexec, hrecords, hlog, fun hdead => hsame (by rw [hdead]; rfl), fun hdead => hchanged (by rw [hdead]; rfl), hrest⟩
  · rw [acceptRestore_of_confirmed hr hstate] at hact
    obtain ⟨hanswer, hframe⟩ := formReply_ok (data := recordBytes die r) h (OnlyChanges.refl [] s) (by decide)
    exact ⟨_, congrArg Host.Outcome.next (handOn_of_ok h hkind hlength hact), hanswer, hframe⟩
  · exact refused_of_act (st := .wrongState) h hkind hlength rfl (hact.trans (acceptRestore_of_pinned hr hpinned))

/-! ## UNPIN (R123) -/

section Unpin
variable {s : State} {p : List Byte}

theorem actUnpin_of_unset (h : s.layout.status = .unset) : actUnpin p s = (s, .refuse .notFound) := if_pos h

theorem actUnpin_of_absent (hset : s.layout.status = .set) (h : s.layout.presentDie (sentIndex p) = false) :
    actUnpin p s = (s, .refuse .badArg) := by
  unfold actUnpin
  rw [if_neg (by rw [hset]; decide), h]
  rfl

variable (hset : s.layout.status = .set) (hpresent : s.layout.presentDie (sentIndex p) = true)
include hset hpresent

theorem actUnpin_of_none (h : Table.fetch s.map.records (sentIndex p) = none) : actUnpin p s = (s, .refuse .notFound) := by
  unfold actUnpin
  rw [if_neg (by rw [hset]; decide), hpresent, h]
  rfl

theorem actUnpin_of_some {r : DefectRecord} (h : Table.fetch s.map.records (sentIndex p) = some r) :
    actUnpin p s = if r.state.isPinned then
      (announce .unpinned (sentIndex p) r.fault r.state.dead false (dropRecord (sentIndex p) s), .ok [])
      else (s, .refuse .wrongState) := by
  unfold actUnpin
  rw [if_neg (by rw [hset]; decide), hpresent, h]
  cases hpinned : r.state.isPinned <;> simp [hpinned]

end Unpin

theorem RecordState.isPinned_iff (x : RecordState) : x.isPinned = true ↔ x = .pinnedDead ∨ x = .pinnedGood := by
  cases x <;> simp [RecordState.isPinned]

/-- Settles O23: the refusals in their order, then the record removed and its transition announced. -/
theorem unpinRemovesRecord : Obligations.UnpinRemovesRecord := by
  intro s m rest d0 d1 d2 h hkind hpayload hqueue die
  have hdie : sentIndex m.payload = die := by rw [hpayload]; exact sentIndex_cons d0 d1 d2 []
  have hlength : m.payload.length ∈ (payloadLengths 0x19).getD [] := by rw [hpayload]; exact List.mem_singleton.mpr rfl
  refine ⟨fun hunset => ?_, fun hset habsent => ?_, fun hset hpresent => ⟨fun hnone => ?_, fun r hr =>
    ⟨fun hdead hgood => ?_, fun hpinned => ?_⟩⟩⟩
  · exact refused_of_act (st := .notFound) h hkind hlength rfl (actUnpin_of_unset hunset)
  · exact refused_of_act (st := .badArg) h hkind hlength rfl (actUnpin_of_absent hset (by rw [hdie]; exact habsent))
  · exact refused_of_act (st := .notFound) h hkind hlength rfl
      (actUnpin_of_none hset (by rw [hdie]; exact hpresent) (by rw [hdie]; exact hnone))
  · have hact := actUnpin_of_some hset (by rw [hdie]; exact hpresent) (by rw [hdie]; exact hr)
    rw [if_neg (fun hp => ((RecordState.isPinned_iff _).mp hp).elim hdead hgood)] at hact
    exact refused_of_act (st := .wrongState) h hkind hlength rfl hact
  · have hact := actUnpin_of_some hset (by rw [hdie]; exact hpresent) (by rw [hdie]; exact hr)
    rw [if_pos ((RecordState.isPinned_iff _).mpr hpinned), hdie] at hact
    set u := announce .unpinned die r.fault r.state.dead false (dropRecord die s) with hu
    have honly : OnlyChanges dieBlocks s u := ((dropRecord_acts _ _).trans (announce_acts _ _ _ _ _ _)).only
    obtain ⟨hanswer, hframe⟩ := formReply_ok (data := []) h honly (by decide)
    refine ⟨_, congrArg Host.Outcome.next (handOn_of_ok h hkind hlength hact), fun d => ?_, ?_, fun hgood => ?_,
      fun hdead hunarmed => ?_, hframe, hanswer⟩
    · rw [formReply_map, hu, announce_records, dropRecord_records, Table.fetch_discard]
    · rw [formReply_map, hu, announce_queue _ _ _ _ _ _ (by exact hqueue)]
      rfl
    · rw [formReply_plan, hu, hgood]
      exact announce_plan_of_unchanged _ _ _ _ _
    · rw [hdead] at hu
      exact announce_edit_plan (t := u) (u := dropRecord die s) (setMap_acts s _).only hunarmed .unpinned r.fault false hu

end Sys2Proof.Machine
end


section
/-! PROOFS. A die that turns dead (R135, R140), and a transition that matches an ARMED capture (R162 to R166, R150). -/

namespace Sys2Proof.Machine

/-! ## A channel that becomes LOST -/

/-- After a round that began with channel `n` not LOST, a LOST `n` holds no entry and LOST is raised (R140). -/
theorem takeRound_lost {s : State} {n : Nat} (h : s.plan.selectOf n ≠ .off) (a b : List Nat)
    (hlost : (takeRound a b s).plan.selectOf n = .off) :
    (takeRound a b s).plan.entryOf n = none ∧ (takeRound a b s).events.pends .lost = true := by
  have hkeeps : RoundKeeps fun u => u.plan.selectOf n = .off → u.plan.entryOf n = none ∧ u.events.pends .lost = true := by
    refine ⟨fun _ _ hu => hu, fun m u _ hu hoff => ?_, fun m u hu hoff => ?_, fun m x u hx hu hoff => ?_,
      fun m x u hx hu hoff => ?_⟩
    · have hwas : u.plan.selectOf n = .off := (selectOf_of_select (recompute_select m u) n).symm.trans hoff
      obtain ⟨hentry, hpends⟩ := hu hwas
      refine ⟨?_, (recompute_acts m u).grows.bits _ hpends⟩
      show Table.fetch (recompute m u).plan.boost n = none
      rw [recompute_boost]
      exact fetch_boostAfter_of_lost _ _ hwas hentry
    · have hentry : (loseChannel m u).plan.entryOf n = if n = m then none else u.plan.entryOf n :=
        Table.fetch_assign u.plan.boost m n none
      refine ⟨?_, EventUnit.pends_raised _ _⟩
      rw [hentry]
      split
      · rfl
      · next hne =>
        have hstaged := (selectOf_of_select (loseChannel_select m u) n).symm.trans hoff
        rw [setPendingSelect_selectOf, if_neg hne] at hstaged
        exact (hu hstaged).1
    · have hstaged := (selectOf_of_select (regainChannel_select m x u) n).symm.trans hoff
      rw [setPendingSelect_selectOf] at hstaged
      split at hstaged
      · exact absurd hstaged hx
      · obtain ⟨hentry, hpends⟩ := hu hstaged
        rw [regainChannel_eq]
        exact ⟨fetch_unboosted_of_none hentry, hpends⟩
    · rw [setPendingSelect_selectOf] at hoff
      split at hoff
      · exact absurd hoff hx
      · exact hu hoff
  exact hkeeps.roundEnd a b (fun hoff => absurd hoff h) hlost

/-- A PIN DEAD of a die that is alive announces a changed standing (R108, R122). -/
theorem acceptPin_of_alive {s : State} {die : Nat} (halive : s.dieDead die = false)
    (hrecord : (Table.fetch s.map.records die).isSome = true ∨ s.map.records.length < 1024) :
    ∃ r left f u, r.state = .pinnedDead ∧ u = announce .pinned die f true left (putRecord die r s) ∧
      acceptPin die .pinnedDead s = (u, .ok (replyRecord die u)) := by
  cases hfetch : Table.fetch s.map.records die with
  | none =>
    have hroom : s.map.records.length < 1024 := hrecord.resolve_left (by rw [hfetch]; exact Bool.false_ne_true)
    exact ⟨_, _, _, _, rfl, rfl, acceptPin_of_new hfetch hroom rfl⟩
  | some r =>
    rw [dieDead_of_some hfetch] at halive
    have hne : r.state ≠ .pinnedDead := fun hstate => by rw [hstate] at halive; exact Bool.noConfusion halive
    have hpin : pinRecord die .pinnedDead r s = announce .pinned die r.fault true (decide (r.state = .retest))
        (putRecord die { r.enter .pinnedDead s.scan.passNumber with source := .hostPin } s) := by
      unfold pinRecord
      rw [if_neg hne, halive]
      rfl
    exact ⟨_, _, _, _, rfl, hpin, acceptPin_of_record hfetch⟩

/-- Settles O21: the PIN announces a changed standing, and its round stages the derived select. -/
theorem deadDieIsReplanned : Obligations.DeadDieIsReplanned := by
  intro s m rest d0 d1 d2 n h hkind hpayload hindex hset hpresent hheld hunarmed halive hselect hrecord
  have hdie : sentIndex [d0, d1, d2, 0] = 2 * n := (sentIndex_cons d0 d1 d2 [0]).trans hindex
  have hlength : m.payload.length ∈ (payloadLengths 0x18).getD [] := by rw [hpayload]; exact List.mem_singleton.mpr rfl
  have hchannel : dieChannel (2 * n) = n := Nat.mul_div_cancel_left n Nat.two_pos
  have hact : actPin m.payload s = acceptPin (2 * n) .pinnedDead s := by
    rw [hpayload, actPin_of_accepted (Or.inl rfl) hset (by rw [hdie]; exact hpresent), hdie]
    rfl
  obtain ⟨r, left, f, u, hstate, hu, haccept⟩ := acceptPin_of_alive halive hrecord
  set v := putRecord (2 * n) r s with hv
  have hplan : u.plan = (takeRound [n] [] v).plan := by
    rw [hu, announce_plan_of_changed .pinned (2 * n) f left (s := v) hunarmed, hchannel]
  have hselectOf : ∀ j, u.plan.selectOf j = if j = n then v.derivedSelect n else s.plan.selectOf j := fun j => by
    rw [hplan, takeRound_selectOf v _ _ hheld]
    simp only [List.mem_singleton]
    split
    · next hj => rw [hj]
    · rfl
  have hdead : v.dieDead (2 * n) = true := by
    rw [dieDead_of_some (s := v) (Table.fetch_store_same _ _ _), hstate]
    rfl
  have hother : v.dieDead (2 * n + 1) = s.dieDead (2 * n + 1) := by
    unfold State.dieDead State.recordState
    rw [hv, putRecord_records, Table.fetch_store_other _ _ (by omega)]
  have hderived : v.derivedSelect n = match s.layout.dieTypeAt n with
      | .single => .off
      | .dual => if s.dieDead (2 * n + 1) then .off else .b := by
    unfold State.derivedSelect
    rw [hdead, hother]
    rfl
  have hnot : v.derivedSelect n ≠ .a := by
    rw [hderived]
    cases s.layout.dieTypeAt n with
    | single => exact fun hx => Select.noConfusion hx
    | dual => dsimp only; split <;> exact fun hx => Select.noConfusion hx
  refine ⟨_, congrArg Host.Outcome.next (handOn_of_ok h hkind hlength (hact.trans haccept)), ?_, ?_, fun j hj => ?_,
    fun hdual halive => ?_, fun hlost => ?_⟩
  · have hchanged : (takeRound [n] [] v).plan.selectOf n ≠ v.plan.selectOf n := by
      rw [← hplan, hselectOf, if_pos rfl]
      exact fun hx => hnot (hx.trans hselect)
    rw [formReply_plan, hplan, takeRound_has_edited, decide_eq_true (Or.inl hchanged), Bool.or_true]
  · rw [formReply_scan, hu, announce_scan]
    rfl
  · exact (hselectOf j).trans (if_neg hj)
  · refine (hselectOf n).trans ?_
    rw [if_pos rfl, hderived, hdual, halive]
    rfl
  · have hoff : v.derivedSelect n = .off := by
      rw [hderived]
      obtain hsingle | hboth := hlost
      · rw [hsingle]
      · rw [hboth]; cases s.layout.dieTypeAt n <;> rfl
    have hselected : u.plan.selectOf n = .off := (hselectOf n).trans ((if_pos rfl).trans hoff)
    have hsees := roundSees_tellLog (s := v) .pinned (2 * n) f hunarmed
    have hlast : (takeRound [n] [] (tellLog .pinned (2 * n) f v)).plan.selectOf n = .off := by
      rw [hsees.takeRound_plan, ← hplan]; exact hselected
    obtain ⟨hentry, hpends⟩ := takeRound_lost (by rw [hsees.plan, hv, putRecord_plan, hselect]; decide) _ _ hlast
    refine ⟨hselected, ?_, ?_⟩
    · rw [formReply_plan, hplan, ← hsees.takeRound_plan]
      exact hentry
    · rw [formReply_events, hu, announce_eq, hchannel]
      cases left with
      | false => exact hpends
      | true => exact (retestLeft_acts .pinned _).grows.bits _ hpends

/-! ## A matching transition (R162 to R166) -/

section Match
variable {s : State} {t : Transition}

theorem Arming.placeFits_iff (a : Arming) : a.placeFits t = true ↔ ∃ q, a.place = some q ∧
    q.region.x0 ≤ channelX (dieChannel t.die) ∧ channelX (dieChannel t.die) ≤ q.region.x1 ∧
      q.region.y0 ≤ channelY (dieChannel t.die) ∧ channelY (dieChannel t.die) ≤ q.region.y1 ∧
        q.colours.getLsbD (channelColour (dieChannel t.die)) = true := by
  have hboth : (0b11#2).getLsbD (t.die % 2) = true := by
    obtain h | h := Nat.mod_two_eq_zero_or_one t.die <;> rw [h] <;> rfl
  unfold Arming.placeFits
  cases a.place with
  | none => simp
  | some q =>
    simp only [inScope, Bool.and_eq_true, decide_eq_true_eq, hboth, and_true, and_assoc, Option.some.injEq,
      exists_eq_left']

/-- The combine decides which matchers must fit (R162). -/
theorem Arming.fits_iff (a : Arming) : a.fits t = true ↔
    (a.combine = .m1 ∧ a.kindFits t = true) ∨ (a.combine = .m2 ∧ a.placeFits t = true) ∨
      (a.combine = .both ∧ a.kindFits t = true ∧ a.placeFits t = true) ∨
        (a.combine = .either ∧ (a.kindFits t = true ∨ a.placeFits t = true)) := by
  unfold Arming.fits
  cases a.combine <;> simp

theorem offerCapture_of_fit (harmed : s.capture.state = .armed) (h : s.capture.arming.fits t = true) :
    offerCapture t s = captureMatch t s := if_pos ⟨harmed, h⟩

theorem offerCapture_of_unfit (h : ¬ s.capture.arming.fits t = true) : offerCapture t s = s := if_neg (fun hx => h hx.2)

/-- What a match leaves of the Capture Unit (R164 to R166). -/
theorem captureMatch_capture : (captureMatch t s).capture =
    { s.capture with
      snapshot := some (s.snapshotOf t)
      state := if s.capture.arming.autoRearm then .armed else .fired
      held := s.capture.held ||| s.capture.arming.holdMask } := by
  unfold captureMatch
  dsimp only
  rw [raise_capture]
  split <;> rfl

theorem captureMatch_pends : (captureMatch t s).events.pends .captureFired = true := EventUnit.pends_raised _ _

theorem captureMatch_overwrites : (captureMatch t s).events.counter .captureOverwrites =
    s.events.counter .captureOverwrites +
      if s.capture.arming.autoRearm = true ∧ s.capture.snapshot.isSome = true then 1 else 0 := by
  unfold captureMatch
  dsimp only
  by_cases h : s.capture.arming.autoRearm = true ∧ s.capture.snapshot.isSome = true
  · rw [if_pos h, if_pos (Bool.and_eq_true_iff.mpr h)]
    exact EventUnit.counted_counter_self _ _
  · rw [if_neg h, if_neg (fun hx => h (Bool.and_eq_true_iff.mp hx))]
    exact (add_zero _).symm

/-- A snapshot reads the modules, the record, the plan and the engine (R164). -/
theorem snapshotOf_congr {u : State} (hmap : u.map.records = s.map.records) (hplan : u.plan = s.plan)
    (hscan : u.scan = s.scan) (hsense : u.sense = s.sense) : u.snapshotOf t = s.snapshotOf t := by
  unfold State.snapshotOf
  rw [hmap, hplan, hscan, hsense]

end Match

/-- Deferred marks outlast the phases of a round (R150). -/
theorem recomputes_has_deferred {s : State} {n : Nat} (h : IndexSet.has s.plan.deferred n = true) (l : List Nat) :
    IndexSet.has (l.foldl recomputeOrDefer s).plan.deferred n = true := by
  induction l generalizing s with
  | nil => exact h
  | cons m l ih =>
    refine ih ?_
    unfold recomputeOrDefer
    split
    · exact h
    · split
      · show IndexSet.has (IndexSet.add s.plan.deferred m) n = true
        rw [IndexSet.has_add, h, Bool.or_true]
      · rw [recompute_deferred]
        exact h

/-- A round defers the one channel it is to derive when that lies on a held slot (R149, R150). -/
theorem takeRound_of_onHeldSlot {s : State} {n : Nat} (h : s.onHeldSlot n = true) (b : List Nat) :
    (takeRound [n] b s).plan.selectOf n = s.plan.selectOf n ∧
      IndexSet.has (takeRound [n] b s).plan.deferred n = true := by
  have hfrozen : s.selectFrozen n (s.derivedSelect n) = true := by
    unfold State.selectFrozen
    rw [h, Bool.true_or]
  have hone : deriveOne (s, IndexSet.addAll [] b) n = (setDeferred n s, IndexSet.addAll [] b) := deriveOne_of_frozen hfrozen
  have hmark : IndexSet.has (setDeferred n s).plan.deferred n = true := by
    show IndexSet.has (IndexSet.add s.plan.deferred n) n = true
    rw [IndexSet.has_add, decide_eq_true rfl, Bool.true_or]
  rw [takeRound_eq]
  refine ⟨?_, ?_⟩
  · rw [markEdited_selectOf, roundEnd_selectOf_eq_derived, List.foldl_cons, List.foldl_nil, hone]
    exact selectOf_of_select (setDeferred_select n s) n
  · show IndexSet.has (roundEnd [n] b s).plan.deferred n = true
    unfold roundEnd phaseThree
    rw [List.foldl_cons, List.foldl_nil, hone]
    exact recomputes_has_deferred (recomputes_has_deferred hmark _) _

/-- Settles O32: the PIN logs its transition and offers it, and only then the planner answers. -/
theorem matchTakesSnapshotAndHolds : Obligations.MatchTakesSnapshotAndHolds := by
  intro s m rest d0 d1 d2 k h hkind hpayload hk die n hset hpresent hnone hroom harmed a now fits1 fits2 fits
  have hdie : sentIndex [d0, d1, d2, k] = die := sentIndex_cons d0 d1 d2 [k]
  have hlength : m.payload.length ∈ (payloadLengths 0x18).getD [] := by rw [hpayload]; exact List.mem_singleton.mpr rfl
  have hact : actPin m.payload s = acceptPin die (pinned k) s := by
    rw [hpayload, actPin_of_accepted hk hset (by rw [hdie]; exact hpresent), hdie]
  set r := hostRecord (pinned k) .none .hostPin now with hr
  set v := putRecord die r s with hv
  set x : Transition := { kind := .pinned, die := die, fault := .none, pass := now } with hx
  set w := appendTransition x v with hw
  have hlogged : OnlyChanges [.map, .events] v w := (appendTransition_acts x v).only
  have hcapture : w.capture = s.capture := hlogged.capture
  have htold : tellLog .pinned die .none v = offerCapture x w := rfl
  have hfits : w.capture.arming.fits x = true ↔ fits := by
    rw [hcapture, Arming.fits_iff, Arming.placeFits_iff]
    exact Iff.rfl
  have haccept := acceptPin_of_new (x := pinned k) hnone hroom rfl
  refine ⟨_, congrArg Host.Outcome.next (handOn_of_ok h hkind hlength (hact.trans haccept)), fun hno => ?_, fun hyes => ?_⟩
  · show (announce .pinned die .none (pinned k).dead false v).capture = _
    rw [announce_capture, htold, offerCapture_of_unfit (fun hx => hno (hfits.mp hx)), hcapture]
  · have hoffer : offerCapture x w = captureMatch x w :=
      offerCapture_of_fit (by rw [hcapture]; exact harmed) (hfits.mpr hyes)
    have hsnapshot : w.snapshotOf x = v.snapshotOf x :=
      snapshotOf_congr (appendTransition_records x v) hlogged.plan hlogged.scan hlogged.sense
    have hround : Acts planBlocks (captureMatch x w) (announce .pinned die .none (pinned k).dead false v) := by
      rw [announce_eq, htold, hoffer]
      cases (pinned k).dead with
      | false => exact .refl _ _
      | true => exact takeRound_acts _ _ _
    have hcounted : (announce .pinned die .none (pinned k).dead false v).events.counter .captureOverwrites =
        (captureMatch x w).events.counter .captureOverwrites := by
      rw [announce_eq, htold, hoffer]
      cases (pinned k).dead with
      | false => rfl
      | true => exact takeRound_counter (by decide) _ _ _
    refine ⟨?_, hround.grows.bits _ captureMatch_pends, ?_, fun hdead hheld => ?_⟩
    · show (announce .pinned die .none (pinned k).dead false v).capture = _
      rw [hround.only.capture, captureMatch_capture, hsnapshot, hcapture]
      have hrecord : Table.fetch v.map.records die = some r := Table.fetch_store_same _ _ _
      unfold State.snapshotOf
      rw [hx, hrecord]
      rfl
    · rw [formReply_events, hcounted, captureMatch_overwrites, hcapture,
        appendTransition_counter v (by decide) x]
      rfl
    · have hdead' : (pinned k).dead = true := by rw [pinned_dead, hdead]; rfl
      have hplan : (announce .pinned die .none (pinned k).dead false v).plan =
          (takeRound [n] [] (captureMatch x w)).plan := by
        rw [announce_eq, htold, hoffer, hdead']
        rfl
      have hslot : (captureMatch x w).onHeldSlot n = true := by
        have hfitted : s.layout.fitted (slotOfChannel n) = true := by
          unfold Layout.presentDie Layout.presentChannel at hpresent
          simp only [Bool.and_eq_true] at hpresent
          exact hpresent.1.2
        have hlayout : (captureMatch x w).layout = s.layout := (captureMatch_acts x w).only.layout.trans hlogged.layout
        have hbit : (s.capture.held ||| a.holdMask).getLsbD (slotOfChannel n) = true := by
          rw [BitVec.getLsbD_or, hheld, Bool.or_true]
        unfold State.onHeldSlot State.slotHeld
        rw [captureMatch_capture, hcapture, hlayout, hfitted, hbit]
        rfl
      have hselect : (captureMatch x w).plan = s.plan := (captureMatch_acts x w).only.plan.trans hlogged.plan
      obtain ⟨hsel, hdef⟩ := takeRound_of_onHeldSlot hslot []
      rw [formReply_plan, hplan, hsel, hselect]
      exact ⟨rfl, hdef⟩

end Sys2Proof.Machine
end


section
/-! PROOFS. Runs of edits that announce transitions without moving the plan, and what an observation comes to, case by case
(R107 to R112, R116, R117). -/

namespace Sys2Proof.Machine

/-! ## Edits that are logged and leave the plan -/

/-- From `v` to `w` the records become `records`, the transitions `new` are logged in turn, the long-command slot becomes
`long`, and nothing else moves but the Capture Unit and the counts and events of the log. -/
structure Logs (v w : State) (new : List Transition) (records : Table DefectRecord) (long : LongSlot) : Prop where
  acts : Acts [.map, .capture, .sense, .events] v w
  records : w.map.records = records
  sense : w.sense = { v.sense with long := long }
  queue : v.map.queue.length ≤ 64 → w.map.queue = appended v.map.queue new
  capture : v.capture.state ≠ .armed → w.capture = v.capture
  held : ∀ i, v.capture.held.getLsbD i = true → w.capture.held.getLsbD i = true
  counters : ∀ c, c ≠ .transitionOverflow → c ≠ .captureOverwrites → w.events.counter c =
    v.events.counter c + BitVec.ofNat 16 (new.countP fun t => decide (t.kind.counter = some c))

namespace Logs

variable {u v w : State} {a b : List Transition} {x y : Table DefectRecord} {l l' : LongSlot}

theorem refl (v : State) : Logs v v [] v.map.records v.sense.long where
  acts := .refl _ v
  records := rfl
  sense := rfl
  queue h := (appended_nil h).symm
  capture _ := rfl
  held _ h := h
  counters _ _ _ := (add_zero _).symm

theorem trans (h : Logs u v a x l) (k : Logs v w b y l') : Logs u w (a ++ b) y l' where
  acts := h.acts.trans k.acts
  records := k.records
  sense := by rw [k.sense, h.sense]
  queue hq := by
    have hv := h.queue hq
    rw [k.queue (by rw [hv]; exact length_appended_le _ _), hv, appended_append]
  capture hu := by
    have hv := h.capture hu
    rw [k.capture (by rw [hv]; exact hu), hv]
  held i hi := k.held i (h.held i hi)
  counters c hc hc' := by rw [k.counters c hc hc', h.counters c hc hc', List.countP_append, BitVec.ofNat_add, add_assoc]

theorem put (d : Nat) (r : DefectRecord) (v : State) :
    Logs v (putRecord d r v) [] (Table.store v.map.records d r) v.sense.long :=
  { refl v with acts := (setMap_acts v _).mono (by decide), records := rfl, queue := fun h => (appended_nil h).symm }

theorem drop (d : Nat) (v : State) : Logs v (dropRecord d v) [] (Table.discard v.map.records d) v.sense.long :=
  { refl v with acts := (setMap_acts v _).mono (by decide), records := rfl, queue := fun h => (appended_nil h).symm }

end Logs

/-- What a match holds stays held besides the slots held before (R166). -/
theorem announce_held (k : TransitionKind) (d : Nat) (f : DieFault) (a b : Bool) (s : State) {i : Nat}
    (h : s.capture.held.getLsbD i = true) : (announce k d f a b s).capture.held.getLsbD i = true := by
  have hlog : (kindEffects k (appendTransition { kind := k, die := d, fault := f, pass := s.scan.passNumber } s)).capture =
      s.capture := ((kindEffects_acts k _).only.capture).trans (appendTransition_acts _ s).only.capture
  rw [announce_capture]
  unfold tellLog offerCapture
  dsimp only
  split
  · rw [captureMatch_capture, hlog]
    dsimp only
    rw [BitVec.getLsbD_or, h, Bool.true_or]
  · rw [hlog]
    exact h

section AnnounceLogs
variable (k : TransitionKind) (d : Nat) (f : DieFault) (left : Bool) (v : State)

theorem announce_counter_of_unchanged {c : Counter} (hqueue : c ≠ .transitionOverflow) (hcapture : c ≠ .captureOverwrites) :
    (announce k d f false left v).events.counter c = v.events.counter c +
      BitVec.ofNat 16 ([({ kind := k, die := d, fault := f, pass := v.scan.passNumber } : Transition)].countP
        fun t => decide (t.kind.counter = some c)) := by
  have hlog : (tellLog k d f v).events.counter c = v.events.counter c + if k.counter = some c then 1 else 0 := by
    unfold tellLog
    dsimp only
    rw [offerCapture_counter _ hcapture, kindEffects_counter, appendTransition_counter _ hqueue]
  have hone : BitVec.ofNat 16 ([({ kind := k, die := d, fault := f, pass := v.scan.passNumber } : Transition)].countP
      fun t => decide (t.kind.counter = some c)) = if k.counter = some c then 1 else 0 := by
    rw [List.countP_singleton]
    by_cases h : k.counter = some c <;> simp [h]
  rw [hone, ← hlog, announce_eq]
  cases left
  · rfl
  · exact retestLeft_counter k _ c

/-- An announcement that leaves the standing logs its transition, whatever it makes of the long-command slot. -/
theorem announce_logs {l : LongSlot} (h : (announce k d f false left v).sense = { v.sense with long := l }) :
    Logs v (announce k d f false left v) [{ kind := k, die := d, fault := f, pass := v.scan.passNumber }] v.map.records l where
  acts := by
    refine ⟨fun b hb => ?_, (announce_acts k d f false left v).grows⟩
    by_cases hplan : b = .plan
    · subst hplan; exact announce_plan_of_unchanged k d f left v
    · refine (announce_acts k d f false left v).only b fun hmem => ?_
      simp only [dieBlocks, List.mem_cons, List.not_mem_nil, or_false] at hmem hb
      tauto
  records := announce_records k d f false left v
  sense := h
  queue hq := announce_queue k d f false left v hq
  capture hu := announce_captureState_of_unarmed k d f false left v hu
  held i hi := announce_held k d f false left v hi
  counters c hc hc' := announce_counter_of_unchanged k d f left v hc hc'

theorem announce_logs_of_stayed :
    Logs v (announce k d f false false v) [{ kind := k, die := d, fault := f, pass := v.scan.passNumber }] v.map.records
      v.sense.long := announce_logs k d f false v (announce_sense_of_stayed k d f false v)

end AnnounceLogs

/-! ## The planner's answer after such edits -/

section Told
variable {s v w t : State} {new : List Transition} {records : Table DefectRecord} {long : LongSlot}

theorem announce_modules (k : TransitionKind) (d : Nat) (f : DieFault) (a b : Bool) (s : State) :
    (announce k d f a b s).sense.modules = s.sense.modules := (announce_tells d s k f a b).modules

/-- The planner answers a changed standing on the records and the modules as they stand in the end (R108, R139). -/
theorem Logs.announce_told {k : TransitionKind} {die : Nat} {f : DieFault} {b : Bool} (h : Logs v w new records long)
    (ht : t = announce k die f true b w) (hlayout : v.layout = s.layout) (hparams : v.params = s.params)
    (hcapture : v.capture = s.capture) (hunarmed : s.capture.state ≠ .armed) :
    (v.plan = s.plan → t.plan = (takeRound [dieChannel die] []
      ((s.setSense { s.sense with modules := t.sense.modules }).setMap t.map)).plan) ∧
    (s.capture.held = 0 → t.plan.selectOf (dieChannel die) = t.derivedSelect (dieChannel die)) := by
  have hw : w.capture = s.capture := (h.capture (by rw [hcapture]; exact hunarmed)).trans hcapture
  have hwunarmed : w.capture.state ≠ .armed := by rw [hw]; exact hunarmed
  have hrecords : t.map.records = w.map.records := by rw [ht, announce_records]
  have hmodules : t.sense.modules = w.sense.modules := by rw [ht, announce_modules]
  have hplan : t.plan = (takeRound [dieChannel die] [] w).plan := by rw [ht, announce_plan_of_changed k die f b hwunarmed]
  refine ⟨fun hv => ?_, fun hheld => ?_⟩
  · have hsees : RoundSees w ((s.setSense { s.sense with modules := t.sense.modules }).setMap t.map) :=
      { layout := (h.acts.only.layout.trans hlayout).symm
        modules := fun i => by
          unfold State.moduleState
          show t.sense.modules[i].state = _
          rw [hmodules]
        held := by rw [hw]; rfl
        fraction := by rw [h.acts.only.params, hparams]; rfl
        records := hrecords
        plan := (h.acts.only.plan.trans hv).symm }
    rw [hplan, hsees.takeRound_plan]
  · rw [hplan, takeRound_selectOf _ _ _ (by rw [hw]; exact hheld), if_pos (List.mem_singleton.mpr rfl)]
    exact (derivedSelect_of_records (by rw [ht, announce_layout]) hrecords _).symm

end Told

/-! ## Tables -/

theorem Table.store_store {α : Type} (t : Table α) (k : Nat) (v v' : α) :
    Table.store (Table.store t k v) k v' = Table.store t k v' := by
  induction t with
  | nil => simp [Table.store]
  | cons e t ih =>
    obtain ⟨k', w⟩ := e
    by_cases hlt : k < k'
    · simp [Table.store, hlt]
    · by_cases heq : k = k'
      · simp [Table.store, heq]
      · simp [Table.store, hlt, heq, ih]

/-! ## Observations -/

/-- The transition of kind `k` that an observation of fault `f` on a die logs. -/
def State.transition (s : State) (k : TransitionKind) (die : Nat) (f : DieFault) : Transition :=
  { kind := k, die := die, fault := f, pass := s.scan.passNumber }

/-- The fault an observation finds (R109). -/
def foundFault : TestAnswer → DieFault
  | .opened => .opened
  | .ok | .shorted => .shorted

section ObserveNew
variable {v v' : State} {die : Nat}

theorem observe_of_none (h : Table.fetch v.map.records die = none) (o : TestAnswer) : observe die o v = observeNew die o v := by
  unfold observe
  rw [h]

theorem observeNew_of_stuck (hroom : makeRoom v = none) {o : TestAnswer} (ho : o ≠ .ok) :
    observeNew die o v = raise .mapFull (count .mapFullDrops v) := by
  unfold observeNew
  cases o with
  | ok => exact absurd rfl ho
  | opened | shorted => dsimp only; rw [hroom]

/-- The birth of a record: stored, and NEW_SUSPECT logged (R109). -/
theorem newSuspect_logs (v' : State) (die : Nat) (f : DieFault) (r : DefectRecord) :
    Logs v' (announce .newSuspect die f false false (putRecord die r v')) [v'.transition .newSuspect die f]
      (Table.store v'.map.records die r) v'.sense.long :=
  (Logs.put die r v').trans (announce_logs_of_stayed .newSuspect die f (putRecord die r v'))

variable (hroom : makeRoom v = some v')
include hroom

/-- An OPEN that needs more tests leaves a SUSPECT window of one hit in one test (R109, R111). -/
theorem observeNew_opened (hc : 1 < v'.params.c) (hw : v'.params.c ≤ v'.params.w) :
    Logs v' (observeNew die .opened v) [v'.transition .newSuspect die .opened]
      (Table.store v'.map.records die (sensedRecord .suspect .opened 1 v'.scan.passNumber)) v'.sense.long := by
  set r := sensedRecord .suspect .opened 1 v'.scan.passNumber with hr
  have hborn := newSuspect_logs v' die .opened r
  set w := announce .newSuspect die .opened false false (putRecord die r v') with hw'
  have hobserve : observeNew die .opened v = putRecord die r w := by
    have hparams : w.params = v'.params := hborn.acts.only.params
    unfold observeNew
    dsimp only
    rw [hroom]
    dsimp only
    rw [← hr, ← hw']
    unfold judgeSuspect
    rw [hparams, if_neg (by rw [hr]; exact Nat.not_le_of_lt hc), if_neg]
    show ¬ 1 + v'.params.w < v'.params.c + 1
    omega
  have hput := hborn.trans (Logs.put die r w)
  rw [hborn.records, Table.store_store, List.append_nil] at hput
  rw [hobserve]
  have hlong : w.sense.long = v'.sense.long := by rw [hborn.sense]
  rw [hlong] at hput
  exact hput

/-- A SHORT, and an OPEN that is enough, make a CONFIRMED record with two transitions (R109, R111). -/
theorem observeNew_confirmed {o : TestAnswer} (ho : o = .shorted ∨ (o = .opened ∧ v'.params.c = 1)) :
    ∃ w, Logs v' w [v'.transition .newSuspect die (foundFault o)]
      (Table.store v'.map.records die (sensedRecord .confirmed (foundFault o) 0 v'.scan.passNumber)) v'.sense.long ∧
      observeNew die o v = announce .confirmed die (foundFault o) true false w := by
  obtain rfl | ⟨rfl, hc⟩ := ho
  · refine ⟨_, newSuspect_logs v' die .shorted _, ?_⟩
    unfold observeNew
    dsimp only
    rw [hroom]
    rfl
  · set r := sensedRecord .suspect .opened 1 v'.scan.passNumber with hr
    have hborn := newSuspect_logs v' die .opened r
    set w := announce .newSuspect die .opened false false (putRecord die r v') with hw'
    have hparams : w.params = v'.params := hborn.acts.only.params
    have hscan : w.scan = v'.scan := hborn.acts.only.scan
    have hput := hborn.trans (Logs.put die (r.enter .confirmed w.scan.passNumber) w)
    rw [hborn.records, Table.store_store, List.append_nil] at hput
    have hlong : w.sense.long = v'.sense.long := by rw [hborn.sense]
    rw [hlong, hscan] at hput
    refine ⟨_, hput, ?_⟩
    unfold observeNew
    dsimp only
    rw [hroom]
    dsimp only
    rw [← hr, ← hw']
    unfold judgeSuspect
    rw [hparams, if_pos (by rw [hr, hc]; exact le_refl 1)]
    unfold confirmRecord
    rw [hscan]
    rfl

end ObserveNew

/-! ### Windows -/

/-- A record with one observation taken into it: a test counted by OK and OPEN, the fault of OPEN and SHORT (R110, R116). -/
def DefectRecord.observed (r : DefectRecord) : TestAnswer → DefectRecord
  | .ok => r.tested false
  | .opened => r.tested true
  | .shorted => { r with fault := .shorted }

theorem DefectRecord.observed_state (r : DefectRecord) (o : TestAnswer) : (r.observed o).state = r.state := by
  cases o <;> rfl

section Windows
variable {v : State} {die : Nat} {r : DefectRecord} (hr : Table.fetch v.map.records die = some r)
include hr

/-- An observation on a record with no window open changes nothing (R113, R114). -/
theorem observe_of_closed (h1 : r.state ≠ .suspect) (h2 : r.state ≠ .retest) (o : TestAnswer) : observe die o v = v := by
  unfold observe
  rw [hr]
  dsimp only
  cases hstate : r.state with
  | suspect => exact absurd hstate h1
  | retest => exact absurd hstate h2
  | confirmed | pinnedDead | pinnedGood => rfl

variable (hopen : r.state = .suspect ∨ r.state = .retest)
include hopen

/-- A window decided against the die: CONFIRMED, with the standing changed from SUSPECT alone (R111, R112, R117). -/
theorem observe_confirms {o : TestAnswer} (h : o = .shorted ∨ v.params.c ≤ (r.observed o).hits) :
    observe die o v = announce (if r.state = .suspect then .confirmed else .reconfirmed) die (r.observed o).fault
      (decide (r.state = .suspect)) (!decide (r.state = .suspect))
      (putRecord die ((r.observed o).enter .confirmed v.scan.passNumber) v) := by
  unfold observe
  rw [hr]
  dsimp only
  obtain hstate | hstate := hopen
  · simp only [hstate, if_true, decide_true, Bool.not_true]
    cases o with
    | shorted => rfl
    | ok | opened =>
      have hc := h.resolve_left (fun ho => TestAnswer.noConfusion ho)
      unfold observeSuspect judgeSuspect
      dsimp only
      exact if_pos hc
  · simp only [hstate, reduceCtorEq, if_false, decide_false, Bool.not_false]
    cases o with
    | shorted => exact if_pos (Or.inr rfl)
    | ok | opened =>
      have hc := h.resolve_left (fun ho => TestAnswer.noConfusion ho)
      unfold observeRetest judgeRetest
      dsimp only
      exact if_pos (Or.inl hc)

variable {o : TestAnswer} (ho : o ≠ .shorted) (hc : (r.observed o).hits < v.params.c)
include ho hc

/-- A window decided for the die: the record goes, with the standing changed from RETEST alone (R111, R117). -/
theorem observe_clears (h : (r.observed o).hits + v.params.w < v.params.c + (r.observed o).passes) :
    observe die o v = announce (if r.state = .suspect then .transient else .restored) die (r.observed o).fault
      (!decide (r.state = .suspect)) (!decide (r.state = .suspect)) (dropRecord die v) := by
  unfold observe
  rw [hr]
  dsimp only
  obtain hstate | hstate := hopen
  · simp only [hstate, if_true, decide_true, Bool.not_true]
    cases o with
    | shorted => exact absurd rfl ho
    | ok | opened =>
      unfold observeSuspect judgeSuspect
      dsimp only
      exact (if_neg (Nat.not_le_of_lt hc)).trans (if_pos h)
  · simp only [hstate, reduceCtorEq, if_false, decide_false, Bool.not_false]
    cases o with
    | shorted => exact absurd rfl ho
    | ok | opened =>
      unfold observeRetest judgeRetest
      dsimp only
      exact (if_neg (fun hx => hx.elim (Nat.not_le_of_lt hc) Bool.false_ne_true)).trans (if_pos h)

/-- A window that is not decided stands, with the test counted (R111, R117). -/
theorem observe_stands (h : v.params.c + (r.observed o).passes ≤ (r.observed o).hits + v.params.w) :
    observe die o v = putRecord die (r.observed o) v := by
  unfold observe
  rw [hr]
  dsimp only
  obtain hstate | hstate := hopen
  · simp only [hstate]
    cases o with
    | shorted => exact absurd rfl ho
    | ok | opened =>
      unfold observeSuspect judgeSuspect
      dsimp only
      exact (if_neg (Nat.not_le_of_lt hc)).trans (if_neg (Nat.not_lt_of_le h))
  · simp only [hstate]
    cases o with
    | shorted => exact absurd rfl ho
    | ok | opened =>
      unfold observeRetest judgeRetest
      dsimp only
      exact (if_neg (fun hx => hx.elim (Nat.not_le_of_lt hc) Bool.false_ne_true)).trans (if_neg (Nat.not_lt_of_le h))

end Windows

end Sys2Proof.Machine
end


section
/-! PROOFS. GAP_TEST_ANSWER (R79, R85, R88, R89): the module it moves, the result that is or is not handed on, and the record
the result opens or decides (R109 to R112, R116, R117). -/

namespace Sys2Proof.Machine

/-! ## Sets of channels -/

/-- Two canonical tables that read alike are the same table. -/
theorem Table.eq_of_fetch {α : Type} {t u : Table α} (ht : Table.canonical t = true) (hu : Table.canonical u = true)
    (h : ∀ k, Table.fetch t k = Table.fetch u k) : t = u := by
  have hmem : ∀ e, e ∈ t ↔ e ∈ u := fun ⟨k, v⟩ => by
    rw [← Table.fetch_eq_some_iff ht, ← Table.fetch_eq_some_iff hu, h]
  rw [Table.canonical_iff] at ht hu
  have hnodup : ∀ {l : Table α}, l.Pairwise (fun a b => a.1 < b.1) → l.Nodup := fun hl =>
    hl.imp fun hlt heq => by rw [heq] at hlt; exact lt_irrefl _ hlt
  exact ((List.perm_ext_iff_of_nodup (hnodup ht) (hnodup hu)).mpr hmem).eq_of_pairwise
    (fun a b _ _ hab hba => absurd hab (Nat.lt_asymm hba)) ht hu

theorem IndexSet.eq_of_has {t u : IndexSet} (ht : Table.canonical t = true) (hu : Table.canonical u = true)
    (h : ∀ k, IndexSet.has t k = IndexSet.has u k) : t = u := by
  refine Table.eq_of_fetch ht hu fun k => ?_
  have hk := h k
  unfold IndexSet.has at hk
  cases hfetch : Table.fetch t k <;> cases hfetch' : Table.fetch u k <;> simp [hfetch, hfetch'] at hk ⊢

/-- The index set of a list rests on its members alone. -/
theorem IndexSet.addAll_nil_congr {a b : List Nat} (h : ∀ n, n ∈ a ↔ n ∈ b) : IndexSet.addAll [] a = IndexSet.addAll [] b :=
  IndexSet.eq_of_has (IndexSet.canonical_addAll a rfl) (IndexSet.canonical_addAll b rfl) fun k => by
    rw [IndexSet.has_addAll, IndexSet.has_addAll, decide_eq_decide.mpr (h k)]

theorem takeRound_congr_set {a b c : List Nat} (h : ∀ n, n ∈ b ↔ n ∈ c) (s : State) : takeRound a b s = takeRound a c s := by
  rw [takeRound_eq, takeRound_eq]
  unfold roundEnd
  rw [IndexSet.addAll_nil_congr h]

theorem mem_lostChannels {s : State} {n : Nat} : n ∈ s.lostChannels ↔ s.plan.selectOf n = .off := by
  unfold State.lostChannels State.isLost
  rw [List.mem_filter, decide_eq_true_eq, and_iff_right_iff_imp, Table.mem_keys]
  unfold Plan.selectOf Table.value
  intro h
  cases hfetch : Table.fetch s.plan.select n with
  | none => rw [hfetch] at h; exact absurd h (by decide)
  | some x => rfl

theorem onOrBeside_iff {l : Layout} {i : Fin 8} {n : Nat} : l.onOrBeside i n = true ↔
    slotOfChannel n = i ∨ ∃ m ∈ l.neighbours n, slotOfChannel m = i := by
  unfold Layout.onOrBeside
  simp only [Bool.or_eq_true, decide_eq_true_eq, List.any_eq_true]

theorem mem_lostAround {s : State} {slots : List (Fin 8)} {n : Nat} : n ∈ s.lostAround slots ↔
    s.plan.selectOf n = .off ∧ ∃ i ∈ slots, s.layout.onOrBeside i n = true := by
  unfold State.lostAround
  rw [List.mem_filter, mem_lostChannels, List.any_eq_true]

/-! ## The module of an answer (R88, R89) -/

/-- The state once an answer for a die has been taken and has moved its module. -/
def State.answered (s : State) (die : Nat) (hot : Bool) : State :=
  answerModule (slotOfChannel (dieChannel die)) hot (markTaken die s)

/-- The items of a module that has answered (R88, R89). -/
def ModuleItem.answered (m : ModuleItem) (hot : Bool) : ModuleItem :=
  { m with
    state := if hot then .hot else .online
    settle := if m.state = .dark ∨ (m.state = .hot ∧ hot = false) then 8 else m.settle
    noAnswer := 0 }

section AnswerModule
variable {i : Fin 8} {hot : Bool} {s : State}

/-- A module that is not DARK takes its answer without a round. -/
theorem answerModule_of_answering (hvacant : s.sense.modules[i].state ≠ .vacant) (hdark : s.sense.modules[i].state ≠ .dark) :
    answerModule i hot s =
      if hot ∧ s.sense.modules[i].state ≠ .hot then raise .moduleHot (setModule i (s.sense.modules[i].answered hot) s)
      else setModule i (s.sense.modules[i].answered hot) s := by
  unfold answerModule ModuleItem.answered
  dsimp only
  cases hstate : s.sense.modules[i].state with
  | vacant => exact absurd hstate hvacant
  | dark => exact absurd hstate hdark
  | online => cases hot <;> simp
  | hot => cases hot <;> simp

/-- A DARK module that answers returns, and the planner takes its round (R88, R148). -/
theorem answerModule_of_dark (hdark : s.sense.modules[i].state = .dark) :
    answerModule i hot s = darkRound i (if hot then raise .moduleHot (setModule i (s.sense.modules[i].answered hot) s)
      else setModule i (s.sense.modules[i].answered hot) s) := by
  unfold answerModule ModuleItem.answered
  dsimp only
  rw [hdark]
  cases hot <;> simp

theorem answerModule_sense_eq (hvacant : s.sense.modules[i].state ≠ .vacant) :
    (answerModule i hot s).sense = (setModule i (s.sense.modules[i].answered hot) s).sense := by
  by_cases hdark : s.sense.modules[i].state = .dark
  · rw [answerModule_of_dark hdark, (darkRound_acts i _).only.sense]
    split <;> rfl
  · rw [answerModule_of_answering hvacant hdark]
    split <;> rfl

end AnswerModule

section Answered
variable {s : State} {die : Nat} {hot : Bool}

theorem answered_acts (s : State) (die : Nat) (hot : Bool) : Acts moduleBlocks s (s.answered die hot) :=
  ((setSense_acts s _).mono (by decide)).trans (answerModule_acts _ hot (markTaken die s))

theorem answered_counter {c : Counter} (h : c ≠ .boostDrops) : (s.answered die hot).events.counter c = s.events.counter c := by
  have hround : ∀ i u, (darkRound i u).events.counter c = u.events.counter c := fun i u => takeRound_counter h _ _ u
  unfold State.answered answerModule
  dsimp only
  split
  · split <;> rw [hround] <;> rfl
  · split <;> rfl
  · split <;> rfl
  · rfl

variable (hvacant : s.sense.modules[slotOfChannel (dieChannel die)].state ≠ .vacant)
include hvacant

theorem answered_sense : (s.answered die hot).sense =
    (setModule (slotOfChannel (dieChannel die)) (s.sense.modules[slotOfChannel (dieChannel die)].answered hot)
      (markTaken die s)).sense := answerModule_sense_eq (s := markTaken die s) hvacant

theorem answered_module (j : Fin 8) : (s.answered die hot).sense.modules[j] =
    if j = slotOfChannel (dieChannel die) then s.sense.modules[slotOfChannel (dieChannel die)].answered hot
    else s.sense.modules[j] := by
  have hmodules := setModule_modules (slotOfChannel (dieChannel die)) j
    (s.sense.modules[slotOfChannel (dieChannel die)].answered hot) (markTaken die s)
  rw [← answered_sense hvacant] at hmodules
  exact hmodules

theorem answered_long : (s.answered die hot).sense.long = s.sense.long := by rw [answered_sense hvacant]; rfl

theorem answered_gap : (s.answered die hot).sense.gap = (markTaken die s).sense.gap := by rw [answered_sense hvacant]; rfl

theorem answered_requests : (s.answered die hot).sense.requests = s.sense.requests := by rw [answered_sense hvacant]; rfl

theorem answered_gapNumber : (s.answered die hot).sense.gapNumber = s.sense.gapNumber := by rw [answered_sense hvacant]; rfl

theorem answered_plan (hdark : s.sense.modules[slotOfChannel (dieChannel die)].state ≠ .dark) :
    (s.answered die hot).plan = s.plan := by
  unfold State.answered
  rw [answerModule_of_answering (s := markTaken die s) hvacant hdark]
  split <;> rfl

theorem answered_hot (hhot : hot = true) (hnot : s.sense.modules[slotOfChannel (dieChannel die)].state ≠ .hot) :
    (s.answered die hot).events.pends .moduleHot = true := by
  unfold State.answered
  by_cases hdark : s.sense.modules[slotOfChannel (dieChannel die)].state = .dark
  · rw [answerModule_of_dark (s := markTaken die s) hdark, if_pos hhot]
    exact (darkRound_acts _ _).grows.bits _ (EventUnit.pends_raised _ _)
  · rw [answerModule_of_answering (s := markTaken die s) hvacant hdark, if_pos ⟨hhot, hnot⟩]
    exact EventUnit.pends_raised _ _

end Answered

/-- A module that returns from DARK has the LOST channels on or beside it recomputed with it back (R139, R148). -/
theorem answered_plan_of_dark {s : State} {die : Nat} {hot : Bool}
    (hdark : s.sense.modules[slotOfChannel (dieChannel die)].state = .dark) {around : List Nat}
    (haround : ∀ n, n ∈ around ↔ s.plan.selectOf n = .off ∧ (slotOfChannel n = slotOfChannel (dieChannel die) ∨
      ∃ m ∈ s.layout.neighbours n, slotOfChannel m = slotOfChannel (dieChannel die))) {x : Vector ModuleItem 8}
    (hx : x = (s.answered die hot).sense.modules) :
    (s.answered die hot).plan = (takeRound [] around (s.setSense { s.sense with modules := x })).plan := by
  have hvacant : s.sense.modules[slotOfChannel (dieChannel die)].state ≠ .vacant := by rw [hdark]; decide
  set i := slotOfChannel (dieChannel die) with hi
  set y := if hot then raise .moduleHot (setModule i (s.sense.modules[i].answered hot) (markTaken die s))
    else setModule i (s.sense.modules[i].answered hot) (markTaken die s) with hy
  have hround : s.answered die hot = takeRound [] (y.lostAround [i]) y := answerModule_of_dark (s := markTaken die s) hdark
  have honly : OnlyChanges [.sense, .events] s y := by
    rw [hy]
    split
    · exact fun b hb => by cases b <;> simp at hb <;> rfl
    · exact fun b hb => by cases b <;> simp at hb <;> rfl
  have hmem : ∀ n, n ∈ y.lostAround [i] ↔ n ∈ around := fun n => by
    rw [mem_lostAround, haround, honly.plan, honly.layout]
    simp only [List.mem_singleton, exists_eq_left, onOrBeside_iff]
  have hsees : RoundSees y (s.setSense { s.sense with modules := x }) :=
    { layout := honly.layout.symm
      modules := fun j => by
        unfold State.moduleState
        show x[j].state = y.sense.modules[j].state
        rw [hx, hround, takeRound_sense]
      held := by rw [honly.capture]; rfl
      fraction := by rw [honly.params]; rfl
      records := by rw [honly.map]; rfl
      plan := honly.plan.symm }
  rw [← takeRound_congr_set hmem, hsees.takeRound_plan, hround]

/-! ## The result of an answer (R85) -/

/-- The long-command slot with a survey's result counted (R94). -/
def LongSlot.surveyed (l : LongSlot) (serves : Bool) (o : TestAnswer) : LongSlot :=
  if serves then { l with tested := l.tested + 1, faults := if o = .ok then l.faults else l.faults + 1 } else l

/-- The state on which a result that is handed on is observed (R85 step 5, R94). -/
def State.heard (s : State) (die : Nat) (hot serves : Bool) (o : TestAnswer) : State :=
  if serves then countTested o (s.answered die hot) else s.answered die hot

section TakeAnswer
variable {s : State} {die : Nat} {o : TestAnswer} {hot : Bool}

/-- An answer of a gap that has ended, or for no outstanding test, is discarded (R79, R85). -/
theorem takeAnswer_of_late {g : Nat} (h : g ≠ s.sense.gapNumber ∨ ∀ e ∈ s.sense.gap, e.die = die → e.outstanding = false) :
    takeAnswer ⟨die, g⟩ o hot s = s := by
  unfold takeAnswer
  split
  · rfl
  · next hgap =>
    have hnone : s.sense.gap.find? (fun e => e.die == die && e.outstanding) = none := by
      rw [List.find?_eq_none]
      intro e he
      have hout := h.resolve_left hgap e he
      simp only [Bool.and_eq_true, beq_iff_eq, not_and, Bool.not_eq_true]
      exact hout
    dsimp only
    rw [hnone]

/-- An answer to an outstanding test of the gap in progress is judged, with the survey mark of its entry (R85). -/
theorem takeAnswer_of_outstanding {e : GapEntry} (he : e ∈ s.sense.gap) (hdie : e.die = die) (hout : e.outstanding = true) :
    ∃ serves, (∀ f ∈ s.sense.gap, f.die = die → (s.sense.gap.map GapEntry.die).Nodup → f.serves = serves) ∧
      takeAnswer ⟨die, s.sense.gapNumber⟩ o hot s = judgeAnswer die serves o (s.answered die hot) := by
  cases hfind : s.sense.gap.find? (fun f => f.die == die && f.outstanding) with
  | none =>
    rw [List.find?_eq_none] at hfind
    exact absurd (by simp [hdie, hout]) (hfind e he)
  | some g =>
    have hg : g.die = die := by
      have hp := List.find?_some hfind
      simp only [Bool.and_eq_true, beq_iff_eq] at hp
      exact hp.1
    refine ⟨g.serves, fun f hf hfdie hnodup => ?_, ?_⟩
    · rw [List.inj_on_of_nodup_map hnodup hf (List.mem_of_find?_eq_some hfind) (hfdie.trans hg.symm)]
    · unfold takeAnswer
      rw [if_neg (fun hne => hne rfl)]
      dsimp only
      rw [hfind]
      rfl

theorem judgeAnswer_of_pinned {u : State} (serves : Bool) (h : u.diePinned die = true) : judgeAnswer die serves o u = u := if_pos h

theorem judgeAnswer_of_aside {u : State} (serves : Bool) (h : u.diePinned die = false)
    (haside : o = .opened ∧ u.sense.modules[slotOfChannel (dieChannel die)].setsAside = true) :
    judgeAnswer die serves o u = if serves then countSkipped (count .hotDiscards u) else count .hotDiscards u := by
  unfold judgeAnswer
  rw [h, if_neg Bool.false_ne_true, if_pos haside]

theorem judgeAnswer_of_heard {u : State} (serves : Bool) (h : u.diePinned die = false)
    (haside : ¬ (o = .opened ∧ u.sense.modules[slotOfChannel (dieChannel die)].setsAside = true)) :
    judgeAnswer die serves o u = observe die o (if serves then countTested o u else u) := by
  unfold judgeAnswer
  rw [h, if_neg Bool.false_ne_true, if_neg haside]

end TakeAnswer

section Heard
variable {s : State} {die : Nat} {o : TestAnswer} {hot serves : Bool}

theorem heard_acts : Acts moduleBlocks s (s.heard die hot serves o) := by
  unfold State.heard
  split
  · exact (answered_acts s die hot).trans ((setSense_acts _ _).mono (by decide))
  · exact answered_acts s die hot

theorem heard_map : (s.heard die hot serves o).map = s.map := heard_acts.only.map

theorem heard_plan_eq : (s.heard die hot serves o).plan = (s.answered die hot).plan := by
  unfold State.heard
  split <;> rfl

theorem heard_modules : (s.heard die hot serves o).sense.modules = (s.answered die hot).sense.modules := by
  unfold State.heard
  split <;> rfl

theorem heard_events : (s.heard die hot serves o).events = (s.answered die hot).events := by
  unfold State.heard
  split <;> rfl

theorem heard_long (hvacant : s.sense.modules[slotOfChannel (dieChannel die)].state ≠ .vacant) :
    (s.heard die hot serves o).sense.long = s.sense.long.surveyed serves o := by
  rw [← answered_long (hot := hot) hvacant]
  unfold State.heard LongSlot.surveyed
  split <;> rfl

/-- A result handed on is observed, whatever its module was (R85). -/
theorem takeAnswer_of_handsOn {e : GapEntry} (he : e ∈ s.sense.gap) (hout : e.outstanding = true)
    (hands : HandsOn s e.die o hot) (hpinned : s.diePinned e.die = false) :
    ∃ serves, ((s.sense.gap.map GapEntry.die).Nodup → e.serves = serves) ∧
      takeAnswer ⟨e.die, s.sense.gapNumber⟩ o hot s = observe e.die o (s.heard e.die hot serves o) := by
  obtain ⟨hvacant, hopened⟩ := hands
  obtain ⟨serves, hserves, htake⟩ := takeAnswer_of_outstanding (o := o) (hot := hot) he rfl hout
  refine ⟨serves, hserves e he rfl, ?_⟩
  have hmap : (s.answered e.die hot).diePinned e.die = s.diePinned e.die := by
    unfold State.diePinned State.recordState
    rw [(answered_acts s e.die hot).only.map]
  have hmodule := answered_module (hot := hot) hvacant (slotOfChannel (dieChannel e.die))
  rw [if_pos rfl] at hmodule
  rw [htake, judgeAnswer_of_heard serves (hmap.trans hpinned)]
  · rfl
  · rintro ⟨hopen, haside⟩
    obtain ⟨honline, hsettle, hcool⟩ := hopened.resolve_left (fun hne => hne hopen)
    rw [hmodule] at haside
    simp only [ModuleItem.setsAside, ModuleItem.answered, honline, hsettle, hcool] at haside
    exact absurd haside (by decide)

end Heard

end Sys2Proof.Machine
end


section
/-! PROOFS. What an answer to a gap test leaves: the module and the discards (R85, R88, R89), a record opened (R109) and a
window decided (R110 to R112, R116, R117). -/

namespace Sys2Proof.Machine

/-! ## HOT_DISCARDS counts no observation -/

section HotDiscards
variable (v : State) (die : Nat)

theorem announce_hotDiscards (k : TransitionKind) (d : Nat) (f : DieFault) (a b : Bool) (s : State) :
    (announce k d f a b s).events.counter .hotDiscards = s.events.counter .hotDiscards := by
  have hk : k.counter ≠ some .hotDiscards := by cases k <;> simp [TransitionKind.counter]
  rw [announce_counter k d f a b s (by decide) (by decide) (by decide), if_neg hk]
  exact add_zero _

theorem makeRoom_hotDiscards {v v' : State} (h : makeRoom v = some v') :
    v'.events.counter .hotDiscards = v.events.counter .hotDiscards := by
  unfold makeRoom at h
  split at h
  · rw [← Option.some.inj h]
  · split at h
    · exact absurd h (by simp)
    · rw [← Option.some.inj h, announce_hotDiscards]
      rfl

theorem judgeSuspect_hotDiscards (r : DefectRecord) :
    (judgeSuspect die r v).events.counter .hotDiscards = v.events.counter .hotDiscards := by
  unfold judgeSuspect confirmRecord
  split
  · rw [announce_hotDiscards]; rfl
  · split
    · rw [announce_hotDiscards]; rfl
    · rfl

theorem judgeRetest_hotDiscards (r : DefectRecord) (short : Bool) :
    (judgeRetest die r short v).events.counter .hotDiscards = v.events.counter .hotDiscards := by
  unfold judgeRetest
  split
  · rw [announce_hotDiscards]; rfl
  · split
    · rw [announce_hotDiscards]; rfl
    · rfl

theorem observe_hotDiscards (o : TestAnswer) :
    (observe die o v).events.counter .hotDiscards = v.events.counter .hotDiscards := by
  have hdropped : (raise .mapFull (count .mapFullDrops v)).events.counter .hotDiscards = v.events.counter .hotDiscards :=
    EventUnit.counted_counter_of_ne _ _ (by decide)
  unfold observe
  split
  · cases o with
    | ok => rfl
    | opened | shorted =>
      unfold observeNew
      dsimp only
      split
      · exact hdropped
      · next hroom =>
        simp only [judgeSuspect_hotDiscards, announce_hotDiscards, putRecord_events, makeRoom_hotDiscards hroom]
  · split
    · cases o with
      | ok | opened => exact judgeSuspect_hotDiscards v die _
      | shorted => exact (announce_hotDiscards _ _ _ _ _ _)
    · cases o <;> exact judgeRetest_hotDiscards v die _ _
    all_goals rfl

end HotDiscards

theorem ModuleItem.setsAside_iff (m : ModuleItem) : m.setsAside = true ↔ m.state = .hot ∨ 0 < m.settle := by
  simp only [ModuleItem.setsAside, Bool.or_eq_true, decide_eq_true_eq]

/-- Settles O43: the answer marks its test taken and moves its module; what is judged then is kept from the module. -/
theorem answerMovesModule : Obligations.AnswerMovesModule := by
  intro s die g o hot i before l state settle aside unheard beside
  refine ⟨fun hlate => congrArg Host.Outcome.next (takeAnswer_of_late hlate), fun hg hout hvacant => ?_⟩
  subst hg
  obtain ⟨e, he, hdie, houtstanding⟩ := hout
  obtain ⟨serves, hserves, htake⟩ := takeAnswer_of_outstanding (o := o) (hot := hot) he hdie houtstanding
  set u := s.answered die hot with hu
  set t := judgeAnswer die serves o u with ht
  have htells : TellsLong u t := judgeAnswer_tells die u serves o
  have hacts : Acts moduleBlocks s u := answered_acts s die hot
  have hjudged : Acts dieBlocks u t := judgeAnswer_acts die serves o u
  have hmodule := answered_module (s := s) (die := die) (hot := hot) hvacant
  have haside : (o = .opened ∧ u.sense.modules[i].setsAside = true) ↔ aside := by
    rw [hmodule i, if_pos rfl]
    exact and_congr_right fun _ => ModuleItem.setsAside_iff _
  have hpin : u.diePinned die = s.diePinned die := by
    unfold State.diePinned State.recordState
    rw [hacts.only.map]
  have hunheard : unheard → t.plan = u.plan := by
    rintro (hpinned | hx | ⟨hok, hnone⟩)
    · rw [ht, judgeAnswer_of_pinned serves (hpin.trans hpinned)]
    · by_cases hpinned : u.diePinned die = true
      · rw [ht, judgeAnswer_of_pinned serves hpinned]
      · rw [ht, judgeAnswer_of_aside serves (by simpa using hpinned) (haside.mpr hx)]
        split <;> rfl
    · by_cases hpinned : u.diePinned die = true
      · rw [ht, judgeAnswer_of_pinned serves hpinned]
      · rw [ht, judgeAnswer_of_heard serves (by simpa using hpinned) (fun hx => by rw [hok] at hx; exact TestAnswer.noConfusion hx.1),
          hok, observe_of_none (by split <;> exact (congrArg (fun m => Table.fetch m.records die) hacts.only.map).trans hnone)]
        show (if serves then countTested .ok u else u).plan = u.plan
        split <;> rfl
  refine ⟨t, congrArg Host.Outcome.next htake, ?_, fun j hj => ?_, ?_, ?_, ?_, fun hhot hnot => ?_, fun hpinned => ?_,
    fun hpinned hx => ?_, fun hx => ?_, fun hx hdark => ?_, fun hx hdark around haround => ?_, ?_⟩
  · rw [htells.modules, hmodule i, if_pos rfl]
    rfl
  · rw [htells.modules, hmodule j, if_neg hj]
  · have hgap := htells.gap
    rw [answered_gap (hot := hot) hvacant] at hgap
    refine hgap.trans ?_
    unfold markTaken
    rw [State.setSense_sense, List.map_map]
    refine List.map_congr_left fun f _ => ?_
    by_cases hf : f.die = die
    · simp [GapEntry.test, hf]
    · simp [GapEntry.test, hf]
  · rw [htells.requests, answered_requests hvacant]
  · rw [htells.gapNumber, answered_gapNumber hvacant]
  · exact hjudged.grows.bits _ (answered_hot hvacant hhot hnot)
  · rw [ht, judgeAnswer_of_pinned serves (hpin.trans hpinned)]
    exact ⟨hacts.only.map, answered_long hvacant, answered_counter (by decide)⟩
  · have hcounted : (count .hotDiscards u).events.counter .hotDiscards = s.events.counter .hotDiscards + 1 := by
      rw [← answered_counter (s := s) (die := die) (hot := hot) (c := .hotDiscards) (by decide)]
      exact EventUnit.counted_counter_self _ _
    rw [ht, judgeAnswer_of_aside serves (hpin.trans hpinned) (haside.mpr hx)]
    refine ⟨?_, ?_, fun f hf hfdie _ hnodup => ?_⟩
    · split <;> exact hacts.only.map
    · split <;> exact hcounted
    · rw [hserves f hf hfdie hnodup]
      have hlong := answered_long (hot := hot) hvacant
      split
      · show { u.sense.long with skipped := u.sense.long.skipped + 1 } = _
        rw [hlong]
      · exact hlong
  · by_cases hpinned : u.diePinned die = true
    · rw [ht, judgeAnswer_of_pinned serves hpinned]
      exact answered_counter (by decide)
    · rw [ht, judgeAnswer_of_heard serves (by simpa using hpinned) (fun hy => hx (haside.mp hy)), observe_hotDiscards,
        ← answered_counter (s := s) (die := die) (hot := hot) (c := .hotDiscards) (by decide)]
      split <;> rfl
  · rw [hunheard hx, answered_plan hvacant hdark]
  · rw [hunheard hx]
    exact answered_plan_of_dark hdark haround htells.modules
  · exact (hacts.only.mono (by decide)).trans hjudged.only

end Sys2Proof.Machine
end


section
/-! PROOFS. What an answer to a gap test makes of its die's record: one opened (R109) and one decided (R110 to R112, R116,
R117). -/

namespace Sys2Proof.Machine

/-! ## Events of an announcement -/

/-- The event a transition's kind raises (R126). -/
def TransitionKind.event : TransitionKind → Option Event
  | .confirmed | .reconfirmed => some .confirmed
  | .restored => some .restored
  | .newSuspect | .transient | .evicted | .retestBegun | .retestAbandoned | .pinned | .unpinned | .loaded => none

theorem announce_pends {k : TransitionKind} {x : Event} (h : k.event = some x) (d : Nat) (f : DieFault) (a b : Bool)
    (s : State) : (announce k d f a b s).events.pends x = true := by
  have hkind : ∀ u, (kindEffects k u).events.pends x = true := fun u => by
    cases k <;> simp only [TransitionKind.event, reduceCtorEq, Option.some.injEq] at h <;> subst h <;>
      exact EventUnit.pends_raised _ _
  have hlog : (tellLog k d f s).events.pends x = true := (offerCapture_acts _ _).grows.bits _ (hkind _)
  have hround : ∀ u, u.events.pends x = true → (takeRound [dieChannel d] [] u).events.pends x = true := fun u hu =>
    (takeRound_acts _ _ u).grows.bits _ hu
  have hleft : ∀ u, u.events.pends x = true → (retestLeft k u).events.pends x = true := fun u hu =>
    (retestLeft_acts k u).grows.bits _ hu
  rw [announce_eq]
  cases a <;> cases b
  · exact hlog
  · exact hleft _ hlog
  · exact hround _ hlog
  · exact hleft _ (hround _ hlog)

/-! ## A record opened (R109) -/

section Opened
variable {s : State} {die : Nat} {o : TestAnswer} {hot serves : Bool}

theorem foundFault_eq (h : o ≠ .ok) : foundFault o = if o = .opened then .opened else .shorted := by
  cases o with
  | ok => exact absurd rfl h
  | opened | shorted => rfl

theorem heard_params : (s.heard die hot serves o).params = s.params := heard_acts.only.params
theorem heard_scan : (s.heard die hot serves o).scan = s.scan := heard_acts.only.scan
theorem heard_layout : (s.heard die hot serves o).layout = s.layout := heard_acts.only.layout
theorem heard_capture : (s.heard die hot serves o).capture = s.capture := heard_acts.only.capture

theorem heard_counter {c : Counter} (h : c ≠ .boostDrops) :
    (s.heard die hot serves o).events.counter c = s.events.counter c := by
  rw [heard_events, answered_counter h]

theorem diePinned_of_none (h : Table.fetch s.map.records die = none) : s.diePinned die = false := by
  unfold State.diePinned State.recordState
  rw [h]
  rfl

theorem diePinned_of_open {r : DefectRecord} (h : Table.fetch s.map.records die = some r)
    (hopen : r.state = .suspect ∨ r.state = .retest) : s.diePinned die = false := by
  unfold State.diePinned State.recordState
  rw [h]
  show r.state.isPinned = false
  obtain h | h := hopen <;> rw [h] <;> rfl

/-- The module of a result that is observed (R88, R89). -/
theorem observe_heard_module (hvacant : s.sense.modules[slotOfChannel (dieChannel die)].state ≠ .vacant) (o' : TestAnswer) :
    (observe die o' (s.heard die hot serves o)).sense.modules[slotOfChannel (dieChannel die)] =
      s.sense.modules[slotOfChannel (dieChannel die)].answered hot := by
  rw [(observe_tells die (s.heard die hot serves o) o').modules, heard_modules, answered_module hvacant, if_pos rfl]

theorem observe_heard_only : OnlyChanges dieBlocks s (observe die o (s.heard die hot serves o)) :=
  (heard_acts.only.mono (by decide)).trans (observe_acts _ _ _).only

end Opened

/-- Settles O41: by the result, OK, OPEN with tests to come, and the two that confirm at once. -/
theorem answerOpensRecord : Obligations.AnswerOpensRecord := by
  intro s e o hot he hout die i before l now hands hnone hroom hqueue hparams fault fresh logged
  obtain ⟨serves, hserves, htake⟩ := takeAnswer_of_handsOn he hout hands (diePinned_of_none hnone)
  obtain ⟨hvacant, hopened⟩ := hands
  obtain ⟨-, -, hc1, hcw, -⟩ := hparams
  set v := s.heard die hot serves o with hv
  have hmap : v.map = s.map := heard_map
  have hparams' : v.params = s.params := heard_params
  have hscan : v.scan = s.scan := heard_scan
  have hmade : makeRoom v = some v := makeRoom_of_room (by rw [hmap]; exact hroom)
  have hvnone : Table.fetch v.map.records die = none := by rw [hmap]; exact hnone
  have hvqueue : v.map.queue.length ≤ 64 := by rw [hmap]; exact hqueue
  have hplan : before.state ≠ .dark → v.plan = s.plan := fun hdark => heard_plan_eq.trans (answered_plan hvacant hdark)
  have hlong : v.sense.long = l.surveyed serves o := heard_long hvacant
  have hobserve : observe die o v = observeNew die o v := observe_of_none hvnone o
  have hstep : exec (.gapTestAnswer ⟨die, s.sense.gapNumber⟩ o hot) s = .next (observeNew die o v) :=
    congrArg Host.Outcome.next (htake.trans hobserve)
  have hmodule : (observeNew die o v).sense.modules[i] = before.answered hot := by
    rw [← hobserve]; exact observe_heard_module hvacant o
  have honly : OnlyChanges dieBlocks s (observeNew die o v) := by rw [← hobserve]; exact observe_heard_only
  have hsurveyed : ∀ {x : LongSlot}, x = l.surveyed serves o → (s.sense.gap.map GapEntry.die).Nodup →
      x = if e.serves then { l with tested := l.tested + 1, faults := if o = .ok then l.faults else l.faults + 1 } else l :=
    fun hx hnodup => by rw [hx, hserves hnodup]; rfl
  by_cases hok : o = .ok
  · subst hok
    refine ⟨_, hstep, hmodule, fun d _ => ?_, fun _ => ⟨hmap, hplan⟩, fun hx => TestAnswer.noConfusion hx,
      fun hx => hx.elim (fun hx => TestAnswer.noConfusion hx) (fun hx => TestAnswer.noConfusion hx.1), hsurveyed hlong, honly⟩
    show Table.fetch v.map.records d = _
    rw [hmap]
  · by_cases hmore : o = .opened ∧ 1 < s.params.c
    · obtain ⟨rfl, hc⟩ := hmore
      have hlogs := observeNew_opened (die := die) hmade (by rw [hparams']; exact hc) (by rw [hparams']; exact hcw)
      refine ⟨_, hstep, hmodule, fun d hd => ?_, fun hx => TestAnswer.noConfusion hx, fun _ _ => ⟨?_, ?_, ?_⟩, ?_,
        hsurveyed ?_, honly⟩
      · rw [hlogs.records, Table.fetch_store, if_neg hd, hmap]
      · rw [hlogs.records, Table.fetch_store, if_pos rfl, hscan]
        rfl
      · rw [hlogs.queue hvqueue, hmap]
        unfold State.transition
        rw [hscan]
        rfl
      · obtain ⟨honline, -, -⟩ := hopened.resolve_left (fun hx => hx rfl)
        have hdark : before.state ≠ .dark := fun hx => ModuleState.noConfusion (honline.symm.trans hx)
        rw [hlogs.acts.only.plan, hplan hdark]
      · rintro (hx | ⟨-, hx⟩)
        · exact TestAnswer.noConfusion hx
        · omega
      · rw [hlogs.sense]
        exact hlong
    · have hnow : o = .shorted ∨ (o = .opened ∧ v.params.c = 1) := by
        rw [hparams']
        cases o with
        | ok => exact absurd rfl hok
        | shorted => exact Or.inl rfl
        | opened => exact Or.inr ⟨rfl, le_antisymm (Nat.le_of_not_lt fun h => hmore ⟨rfl, h⟩) hc1⟩
      obtain ⟨w, hlogs, hlast⟩ := observeNew_confirmed (die := die) hmade hnow
      have hfault : foundFault o = fault := foundFault_eq hok
      rw [hlast] at hstep hmodule honly
      refine ⟨_, hstep, hmodule, fun d hd => ?_, fun hx => absurd hx hok, fun hx hc => absurd ⟨hx, hc⟩ hmore,
        fun _ => ⟨?_, ?_, announce_pends rfl _ _ _ _ _, ?_, fun hunarmed => ?_⟩, hsurveyed ?_, honly⟩
      · rw [announce_records, hlogs.records, Table.fetch_store, if_neg hd, hmap]
      · rw [announce_records, hlogs.records, Table.fetch_store, if_pos rfl, hscan, hfault]
        rfl
      · have hwqueue := hlogs.queue hvqueue
        rw [announce_queue _ _ _ _ _ _ (by rw [hwqueue]; exact length_appended_le _ _), hwqueue, appended_append,
          hlogs.acts.only.scan, hmap, hscan, hfault]
        unfold State.transition
        rw [hscan]
        rfl
      · rw [announce_counter _ _ _ _ _ _ (by decide) (by decide) (by decide), hlogs.counters _ (by decide) (by decide), hv,
          heard_counter (by decide)]
        exact congrArg (· + 1) (add_zero _)
      · have htold := hlogs.announce_told (s := s) (t := announce .confirmed die (foundFault o) true false w) rfl heard_layout hparams' heard_capture hunarmed
        exact ⟨fun hdark => htold.1 (hplan hdark), htold.2⟩
      · rw [announce_sense_of_stayed, hlogs.sense]
        exact hlong

/-! ## A window decided (R110 to R112, R116, R117) -/

section Decided
variable {r : DefectRecord} {o : TestAnswer}

theorem observed_hits : (r.observed o).hits = if o = .opened then r.hits + 1 else r.hits := by cases o <;> rfl

theorem observed_passes (h : o ≠ .shorted) : (r.observed o).passes = r.passes + 1 := by
  cases o with
  | shorted => exact absurd rfl h
  | ok | opened => rfl

theorem observed_fault : (r.observed o).fault = match o with
    | .ok => r.fault
    | .opened => .opened
    | .shorted => .shorted := by cases o <;> rfl

theorem observed_enter (now : PassNumber) : (r.observed o).enter .confirmed now =
    { r with state := .confirmed, fault := (r.observed o).fault, hits := 0, passes := 0, statePass := now } := by
  cases o <;> rfl

theorem observed_eq : r.observed o =
    { r with fault := (r.observed o).fault, hits := (r.observed o).hits, passes := (r.observed o).passes } := by
  cases o <;> rfl

/-- A survey's counts and those of a RETEST are counts of their own (R94, R97). -/
theorem LongSlot.surveyed_counted (l : LongSlot) (serves : Bool) (o : TestAnswer) (k : TransitionKind) :
    (l.surveyed serves o).counted k = (l.counted k).surveyed serves o := by
  cases serves <;> cases k <;> rfl

/-- What an announcement makes of the long-command slot when it does, and does not, tell of a record that left RETEST. -/
theorem announce_long (k : TransitionKind) (d : Nat) (f : DieFault) (a : Bool) (w : State) (hk : k ≠ .retestAbandoned) :
    (announce k d f a false w).sense.long = w.sense.long ∧
      (w.anyRetest = true → (announce k d f a true w).sense.long = w.sense.long.counted k) ∧
      (w.anyRetest = false → (announce k d f a true w).events.pends .longDone = true ∧
        (announce k d f a true w).sense.long = { w.sense.long.counted k with running := false, outcome := .complete }) :=
  ⟨by rw [announce_sense_of_stayed], fun h => by rw [announce_sense_of_left k d f a h],
    fun h => (announce_sense_of_last k d f a hk h).symm⟩

end Decided

/-- An observation on an open window leaves the records of other dies. -/
theorem observe_fetch_of_ne {v : State} {die d : Nat} {r : DefectRecord} (hr : Table.fetch v.map.records die = some r)
    (hopen : r.state = .suspect ∨ r.state = .retest) (o : TestAnswer) (hd : d ≠ die) :
    Table.fetch (observe die o v).map.records d = Table.fetch v.map.records d := by
  by_cases hagainst : o = .shorted ∨ v.params.c ≤ (r.observed o).hits
  · rw [observe_confirms hr hopen hagainst, announce_records, putRecord_records, Table.fetch_store, if_neg hd]
  · obtain ⟨ho, hc⟩ := not_or.mp hagainst
    obtain hfew | hmany := Nat.lt_or_ge ((r.observed o).hits + v.params.w) (v.params.c + (r.observed o).passes)
    · rw [observe_clears hr hopen ho (Nat.lt_of_not_le hc) hfew, announce_records, dropRecord_records, Table.fetch_discard,
        if_neg hd]
    · rw [observe_stands hr hopen ho (Nat.lt_of_not_le hc) hmany, putRecord_records, Table.fetch_store, if_neg hd]

/-- Settles O42: a window decided against the die, one decided for it, and one that stands. -/
theorem answerDecidesWindow : Obligations.AnswerDecidesWindow := by
  intro s e r o hot he hout die hands hr hopen hqueue answering hits passes fault logged suspect distinct others surveyed
    leaves told
  obtain ⟨serves, hserves, htake⟩ := takeAnswer_of_handsOn he hout hands (diePinned_of_open hr hopen)
  obtain ⟨hvacant, -⟩ := hands
  set v := s.heard die hot serves o with hv
  have hmap : v.map = s.map := heard_map
  have hparams : v.params = s.params := heard_params
  have hscan : v.scan = s.scan := heard_scan
  have hvr : Table.fetch v.map.records die = some r := by rw [hmap]; exact hr
  have hvqueue : v.map.queue.length ≤ 64 := by rw [hmap]; exact hqueue
  have hplan : answering → v.plan = s.plan := fun hdark => heard_plan_eq.trans (answered_plan hvacant hdark)
  have hlong : v.sense.long = s.sense.long.surveyed serves o := heard_long hvacant
  have hsurveyed : ∀ x : LongSlot, distinct → x.surveyed serves o = surveyed x := fun x hnodup => by
    show _ = if e.serves then _ else _
    rw [hserves hnodup]
    rfl
  have hcounter : ∀ c, c ≠ .boostDrops → v.events.counter c = s.events.counter c := fun c hc => heard_counter hc
  have hhits : (r.observed o).hits = hits := observed_hits
  have hfault : (r.observed o).fault = fault := observed_fault
  have hothers : v.otherRetest die = others := by unfold State.otherRetest; rw [hmap]
  have hlogged : ∀ (k : TransitionKind) (a b : Bool) (w : State), w.map.queue = v.map.queue → w.scan = v.scan →
      (announce k die (r.observed o).fault a b w).map.queue = appended s.map.queue (logged k) := fun k a b w hq hs => by
    rw [announce_queue _ _ _ _ _ _ (by rw [hq]; exact hvqueue), hq, hs, hmap, hscan, hfault]
  have hleaves : ∀ (k : TransitionKind) (a : Bool) (w : State), k ≠ .retestAbandoned → w.sense = v.sense →
      (Table.canonical s.map.records = true → w.anyRetest = others) →
      leaves (announce k die (r.observed o).fault a (!decide suspect) w) (s.sense.long.counted k) := by
    intro k a w hk hsense hany
    obtain ⟨hstayed, hleft, hlast⟩ := announce_long k die (r.observed o).fault a w hk
    refine ⟨fun hsus hnodup => ?_, fun hsus hnodup hcanonical => ⟨fun hsome => ?_, fun hnone => ?_⟩⟩
    · rw [decide_eq_true hsus]
      exact hstayed.trans (by rw [hsense, hlong, hsurveyed _ hnodup])
    · rw [decide_eq_false hsus]
      refine (hleft ((hany hcanonical).trans hsome)).trans ?_
      rw [hsense, hlong, LongSlot.surveyed_counted, hsurveyed _ hnodup]
    · rw [decide_eq_false hsus]
      obtain ⟨hpends, hend⟩ := hlast ((hany hcanonical).trans hnone)
      refine ⟨hpends, hend.trans ?_⟩
      rw [hsense, hlong, LongSlot.surveyed_counted, hsurveyed _ hnodup]
  have htold : ∀ {w : State} {new : List Transition} {x : Table DefectRecord} {l : LongSlot} (k : TransitionKind) (b : Bool),
      Logs v w new x l → told (announce k die (r.observed o).fault true b w) := fun {w _ _ _} k b hlogs hunarmed => by
    obtain ⟨hround, hselect⟩ := hlogs.announce_told (s := s) (t := announce k die (r.observed o).fault true b w) rfl
      heard_layout hparams heard_capture hunarmed
    exact ⟨fun hdark => hround (hplan hdark), hselect⟩
  refine ⟨observe die o v, congrArg Host.Outcome.next htake, fun d hd => ?_, fun hagainst => ?_, fun ho hc hfew => ?_,
    fun ho hc hmany => ?_, observe_heard_only⟩
  · rw [observe_fetch_of_ne hvr hopen o hd, hmap]
  · have hagainst' : o = .shorted ∨ v.params.c ≤ (r.observed o).hits := by rw [hparams, hhits]; exact hagainst
    rw [observe_confirms hvr hopen hagainst', hscan]
    set w := putRecord die ((r.observed o).enter .confirmed s.scan.passNumber) v with hw
    have hany : Table.canonical s.map.records = true → w.anyRetest = others := fun hcanonical =>
      (anyRetest_putRecord (by rw [hmap]; exact hcanonical) (fun hx => RecordState.noConfusion hx)).trans hothers
    refine ⟨?_, hlogged _ _ _ w rfl rfl, ?_, ?_, fun hsus => ?_, fun hsus hdark => ?_, ?_⟩
    · rw [announce_records, hw, putRecord_records, Table.fetch_store, if_pos rfl, observed_enter, hfault]
    · exact announce_pends (by split <;> rfl) _ _ _ _ _
    · have hcounts : (if r.state = .suspect then TransitionKind.confirmed else .reconfirmed).counter = some .confirmations := by
        split <;> rfl
      rw [announce_counter _ _ _ _ _ _ (by decide) (by decide) (by decide), if_pos hcounts]
      exact congrArg (· + 1) (hcounter _ (by decide))
    · rw [decide_eq_true hsus]
      exact htold _ _ (Logs.put die _ v)
    · rw [decide_eq_false hsus, announce_plan_of_unchanged]
      exact hplan hdark
    · have hcount := hleaves (if r.state = .suspect then .confirmed else .reconfirmed) (decide suspect) w
        (by split <;> decide) rfl hany
      by_cases hsus : suspect
      · exact ⟨hcount.1, fun hx => absurd hsus hx⟩
      · rw [if_neg hsus] at hcount ⊢
        exact hcount
  · have hc' : (r.observed o).hits < v.params.c := by rw [hparams, hhits]; exact hc
    have hfew' : (r.observed o).hits + v.params.w < v.params.c + (r.observed o).passes := by
      rw [hparams, hhits, observed_passes ho]; exact hfew
    rw [observe_clears hvr hopen ho hc' hfew']
    set w := dropRecord die v with hw
    refine ⟨?_, hlogged _ _ _ w rfl rfl, fun hsus => ⟨fun hdark => ?_, ?_⟩, fun hsus => ⟨?_, ?_⟩, ?_⟩
    · rw [announce_records, hw, dropRecord_records, Table.fetch_discard_same]
    · rw [decide_eq_true hsus]
      exact (announce_plan_of_unchanged _ _ _ _ _).trans (hplan hdark)
    · have hcounts : (if r.state = .suspect then TransitionKind.transient else .restored).counter = some .transients := by
        rw [if_pos hsus]; rfl
      rw [announce_counter _ _ _ _ _ _ (by decide) (by decide) (by decide), if_pos hcounts]
      exact congrArg (· + 1) (hcounter _ (by decide))
    · exact announce_pends (by rw [if_neg hsus]; rfl) _ _ _ _ _
    · rw [decide_eq_false hsus]
      exact htold _ _ (Logs.drop die v)
    · have hcount := hleaves (if r.state = .suspect then .transient else .restored) (!decide suspect) w
        (by split <;> decide) rfl (fun _ => anyRetest_dropRecord.trans hothers)
      by_cases hsus : suspect
      · exact ⟨hcount.1, fun hx => absurd hsus hx⟩
      · rw [if_neg hsus] at hcount ⊢
        exact hcount
  · have hc' : (r.observed o).hits < v.params.c := by rw [hparams, hhits]; exact hc
    have hmany' : v.params.c + (r.observed o).passes ≤ (r.observed o).hits + v.params.w := by
      rw [hparams, hhits, observed_passes ho]; exact hmany
    rw [observe_stands hvr hopen ho hc' hmany']
    refine ⟨?_, by rw [← hmap]; rfl, hplan, fun hnodup => hlong.trans (hsurveyed _ hnodup)⟩
    rw [putRecord_records, Table.fetch_store_same, observed_eq, hfault, hhits, observed_passes ho]

end Sys2Proof.Machine
end


section
/-! PROOFS. A full map (R107, R119, R120): which record is evicted, and the record created in its place. -/

namespace Sys2Proof.Machine

/-! ## Which record is evicted (R119) -/

/-- Whether record `e` is evicted rather than `f`: fewer hits, then a greater age, then a lower die index (R119). -/
def EvictedBefore (now : PassNumber) (e f : Nat × DefectRecord) : Prop :=
  e.2.hits < f.2.hits ∨ (e.2.hits = f.2.hits ∧ recordAge now f.2 < recordAge now e.2) ∨
    (e.2.hits = f.2.hits ∧ recordAge now f.2 = recordAge now e.2 ∧ e.1 < f.1)

theorem EvictedBefore.trans {now : PassNumber} {e f g : Nat × DefectRecord} (h : EvictedBefore now e f)
    (k : EvictedBefore now f g) : EvictedBefore now e g := by
  unfold EvictedBefore at *
  omega

section Evictee
variable {now : PassNumber} {t : Table DefectRecord}

theorem evictee_eq_none_iff : evictee now t = none ↔ ∀ e ∈ t, e.2.state ≠ .suspect := by
  induction t with
  | nil => simp [evictee]
  | cons e t ih =>
    rw [List.forall_mem_cons]
    unfold evictee
    by_cases he : e.2.state = .suspect
    · rw [if_pos he]
      refine ⟨fun h => ?_, fun h => absurd he h.1⟩
      split at h
      · exact absurd h (by simp)
      · split at h <;> exact absurd h (by simp)
    · rw [if_neg he, ih]
      exact ⟨fun h => ⟨he, h⟩, fun h => h.2⟩

/-- The record evicted is SUSPECT and goes before every other (R119). -/
theorem evictee_least (hc : Table.canonical t = true) {e : Nat × DefectRecord} (h : evictee now t = some e) :
    e ∈ t ∧ e.2.state = .suspect ∧ ∀ f ∈ t, f.2.state = .suspect → f ≠ e → EvictedBefore now e f := by
  rw [Table.canonical_iff] at hc
  induction t generalizing e with
  | nil => exact absurd h (by simp [evictee])
  | cons g t ih =>
    obtain ⟨hlt, hc⟩ := List.pairwise_cons.mp hc
    unfold evictee at h
    by_cases hg : g.2.state = .suspect
    · rw [if_pos hg] at h
      split at h
      · next hnone =>
        obtain rfl := Option.some.inj h
        refine ⟨List.mem_cons_self, hg, fun f hf hsuspect hne => ?_⟩
        obtain rfl | hf := List.mem_cons.mp hf
        · exact absurd rfl hne
        · exact absurd hsuspect (evictee_eq_none_iff.mp hnone f hf)
      · next f hsome =>
        obtain ⟨hft, hfs, hfleast⟩ := ih hc hsome
        split at h
        · next hbefore =>
          obtain rfl := Option.some.inj h
          refine ⟨List.mem_cons_of_mem _ hft, hfs, fun x hx hxs hne => ?_⟩
          obtain rfl | hx := List.mem_cons.mp hx
          · unfold evictsBefore at hbefore
            simp only [Bool.or_eq_true, Bool.and_eq_true, decide_eq_true_eq] at hbefore
            exact hbefore.imp_right Or.inl
          · exact hfleast x hx hxs hne
        · next hbefore =>
          obtain rfl := Option.some.inj h
          have hgf : EvictedBefore now g f := by
            have hkey := hlt f hft
            unfold evictsBefore at hbefore
            simp only [Bool.or_eq_true, Bool.and_eq_true, decide_eq_true_eq] at hbefore
            unfold EvictedBefore
            omega
          refine ⟨List.mem_cons_self, hg, fun x hx hxs hne => ?_⟩
          obtain rfl | hx := List.mem_cons.mp hx
          · exact absurd rfl hne
          · by_cases hxf : x = f
            · rw [hxf]; exact hgf
            · exact hgf.trans (hfleast x hx hxs hxf)
    · rw [if_neg hg] at h
      obtain ⟨hmem, hsuspect, hleast⟩ := ih hc h
      refine ⟨List.mem_cons_of_mem _ hmem, hsuspect, fun x hx hxs hne => ?_⟩
      obtain rfl | hx := List.mem_cons.mp hx
      · exact absurd hxs hg
      · exact hleast x hx hxs hne

end Evictee

/-! ## Room made by an eviction -/

theorem Table.length_store_of_none {α : Type} {t : Table α} {k : Nat} (v : α) (h : Table.fetch t k = none) :
    (Table.store t k v).length = t.length + 1 := by
  induction t with
  | nil => rfl
  | cons e t ih =>
    obtain ⟨k', w⟩ := e
    have hne : k ≠ k' := fun heq => by simp [Table.fetch, heq] at h
    have hrest : Table.fetch t k = none := by simpa [Table.fetch, hne] using h
    by_cases hlt : k < k'
    · simp [Table.store, hlt]
    · simp [Table.store, hlt, hne, ih hrest]

theorem Table.length_discard_of_some {α : Type} {t : Table α} {k : Nat} {v : α} (hc : Table.canonical t = true)
    (h : Table.fetch t k = some v) : (Table.discard t k).length + 1 = t.length := by
  rw [← Table.length_store_of_none v (Table.fetch_discard_same t k)]
  congr 1
  refine Table.eq_of_fetch (Table.canonical_store _ _ (Table.canonical_discard _ hc)) hc fun j => ?_
  rw [Table.fetch_store, Table.fetch_discard]
  by_cases hj : j = k
  · rw [if_pos hj, hj, h]
  · rw [if_neg hj, if_neg hj]

/-- The state with room made by evicting `e` (R119). -/
def State.evicting (x : State) (e : Nat × DefectRecord) : State :=
  announce .evicted e.1 e.2.fault false false (dropRecord e.1 x)

theorem evicting_logs (x : State) (e : Nat × DefectRecord) : Logs x (x.evicting e) [x.transition .evicted e.1 e.2.fault]
    (Table.discard x.map.records e.1) x.sense.long :=
  (Logs.drop e.1 x).trans (announce_logs_of_stayed .evicted e.1 e.2.fault (dropRecord e.1 x))

theorem makeRoom_of_suspect {x : State} (hfull : 1024 ≤ x.map.records.length)
    (h : ¬ ∀ e ∈ x.map.records, e.2.state ≠ .suspect) :
    ∃ e, evictee x.scan.passNumber x.map.records = some e ∧ makeRoom x = some (x.evicting e) := by
  cases hevictee : evictee x.scan.passNumber x.map.records with
  | none => exact absurd (evictee_eq_none_iff.mp hevictee) h
  | some e =>
    refine ⟨e, rfl, ?_⟩
    have hroom : ¬ x.map.records.length < Config.mapCapacity := Nat.not_lt_of_le hfull
    unfold makeRoom
    rw [if_neg hroom, hevictee]
    rfl

theorem makeRoom_of_stuck {x : State} (hfull : 1024 ≤ x.map.records.length)
    (h : ∀ e ∈ x.map.records, e.2.state ≠ .suspect) : makeRoom x = none := by
  have hroom : ¬ x.map.records.length < Config.mapCapacity := Nat.not_lt_of_le hfull
  unfold makeRoom
  rw [if_neg hroom, evictee_eq_none_iff.mpr h]

/-! ## A record created in the place of the one evicted -/

/-- What `FullMapEvicts` says of the state `t` reached from `s` by creating record `r` of `die`, with `e` evicted for it and
the transitions of `ks` announced. -/
def EvictsFor (s t : State) (e : Nat × DefectRecord) (die : Nat) (r : DefectRecord) (ks : List TransitionKind) : Prop :=
  (e ∈ s.map.records ∧ e.2.state = .suspect ∧
    ∀ f ∈ s.map.records, f.2.state = .suspect → f ≠ e → EvictedBefore s.scan.passNumber e f) ∧
  Table.fetch t.map.records e.1 = none ∧ Table.fetch t.map.records die = some r ∧
  (∀ d, d ≠ die → d ≠ e.1 → Table.fetch t.map.records d = Table.fetch s.map.records d) ∧
  t.map.records.length = 1024 ∧
  t.map.queue = appended s.map.queue
    (s.transition .evicted e.1 e.2.fault :: ks.map fun k => s.transition k die r.fault) ∧
  t.events.counter .evictions = s.events.counter .evictions + 1 ∧
  (r.state ≠ .suspect → r.state ≠ .pinnedGood → s.capture.held = 0 → s.capture.state ≠ .armed →
    t.plan.selectOf (dieChannel die) = t.derivedSelect (dieChannel die))

section Evicts
variable {s x t u w : State} {e : Nat × DefectRecord} {die : Nat} {r : DefectRecord} {ks : List TransitionKind}

theorem evictsFor_of (hcanonical : Table.canonical s.map.records = true) (hfull : s.map.records.length = 1024)
    (hnone : Table.fetch s.map.records die = none) (hevictee : evictee s.scan.passNumber s.map.records = some e)
    (hrecords : t.map.records = Table.store (Table.discard s.map.records e.1) die r)
    (hqueue : t.map.queue = appended s.map.queue
      (s.transition .evicted e.1 e.2.fault :: ks.map fun k => s.transition k die r.fault))
    (hcount : t.events.counter .evictions = s.events.counter .evictions + 1)
    (hplan : r.state ≠ .suspect → r.state ≠ .pinnedGood → s.capture.held = 0 → s.capture.state ≠ .armed →
      t.plan.selectOf (dieChannel die) = t.derivedSelect (dieChannel die)) : EvictsFor s t e die r ks := by
  have hleast := evictee_least hcanonical hevictee
  have hlisted : Table.fetch s.map.records e.1 = some e.2 := Table.fetch_of_mem hcanonical hleast.1
  have hne : e.1 ≠ die := fun heq => by rw [heq, hnone] at hlisted; exact absurd hlisted (by simp)
  refine ⟨hleast, ?_, ?_, fun d hd hde => ?_, ?_, hqueue, hcount, hplan⟩
  · rw [hrecords, Table.fetch_store, if_neg hne, Table.fetch_discard_same]
  · rw [hrecords, Table.fetch_store_same]
  · rw [hrecords, Table.fetch_store, if_neg hd, Table.fetch_discard, if_neg hde]
  · rw [hrecords, Table.length_store_of_none, Table.length_discard_of_some hcanonical hlisted, hfull]
    rw [Table.fetch_discard, if_neg hne.symm, hnone]

/-- What stands after edits that end in an announcement: the records, the log and the evictions counted. -/
theorem Logs.announced {new : List Transition} {y : Table DefectRecord} {l : LongSlot} (h : Logs x w new y l)
    (hqueue : x.map.queue.length ≤ 64) (k : TransitionKind) (f : DieFault) (a b : Bool) (hk : k ≠ .evicted) :
    (announce k die f a b w).map.records = y ∧
      (announce k die f a b w).map.queue = appended x.map.queue (new ++ [x.transition k die f]) ∧
      (announce k die f a b w).events.counter .evictions = x.events.counter .evictions +
        BitVec.ofNat 16 (new.countP fun t => decide (t.kind.counter = some .evictions)) := by
  have hw := h.queue hqueue
  have hcounter : k.counter ≠ some .evictions := by cases k <;> simp_all [TransitionKind.counter]
  refine ⟨(announce_records _ _ _ _ _ _).trans h.records, ?_, ?_⟩
  · rw [announce_queue _ _ _ _ _ _ (by rw [hw]; exact length_appended_le _ _), hw, appended_append]
    unfold State.transition
    rw [h.acts.only.scan]
  · rw [announce_counter _ _ _ _ _ _ (by decide) (by decide) (by decide), if_neg hcounter,
      h.counters _ (by decide) (by decide)]
    exact add_zero _

/-- The edits that put a record in the place of the one evicted, before its last announcement. -/
theorem evicting_put_logs {v : State} {new : List Transition} {l : LongSlot}
    (h : Logs (x.evicting e) v new (Table.store (x.evicting e).map.records die r) l) :
    Logs x v (x.transition .evicted e.1 e.2.fault :: new) (Table.store (Table.discard x.map.records e.1) die r) l := by
  have hlogs := (evicting_logs x e).trans h
  rw [(evicting_logs x e).records] at hlogs
  exact hlogs

variable (hcanonical : Table.canonical s.map.records = true) (hqueue : s.map.queue.length ≤ 64)
  (hfull : s.map.records.length = 1024) (hnone : Table.fetch s.map.records die = none)
  (hevictee : evictee s.scan.passNumber s.map.records = some e) (hmap : x.map = s.map)
  (hpass : x.scan.passNumber = s.scan.passNumber)
  (hcount : x.events.counter .evictions = s.events.counter .evictions)

theorem transition_of_pass (hpass : x.scan.passNumber = s.scan.passNumber) : x.transition = s.transition := by
  funext k d f
  unfold State.transition
  rw [hpass]

include hcanonical hqueue hfull hnone hevictee hmap hpass hcount

/-- A record created by edits that end in an announcement, in the place of the one evicted. -/
theorem evictsFor_of_announced {new : List TransitionKind} {l : LongSlot} {k : TransitionKind} {f : DieFault} {a b : Bool}
    (h : Logs x w (x.transition .evicted e.1 e.2.fault :: new.map fun j => x.transition j die f)
      (Table.store (Table.discard x.map.records e.1) die r) l)
    (hu : u = announce k die f a b w) (hk : k ≠ .evicted) (hnew : ∀ j ∈ new, j ≠ .evicted) (hf : r.fault = f)
    (hmap' : t.map = u.map) (hcount' : t.events.counter .evictions = u.events.counter .evictions)
    (hplan : r.state ≠ .suspect → r.state ≠ .pinnedGood → s.capture.held = 0 → s.capture.state ≠ .armed →
      t.plan.selectOf (dieChannel die) = t.derivedSelect (dieChannel die)) : EvictsFor s t e die r (new ++ [k]) := by
  obtain ⟨hrecords, hlog, hevictions⟩ := h.announced (die := die) (by rw [hmap]; exact hqueue) k f a b hk
  have hone : (x.transition .evicted e.1 e.2.fault :: new.map fun j => x.transition j die f).countP
      (fun t => decide (t.kind.counter = some .evictions)) = 1 := by
    have hcounter : ∀ j : TransitionKind, j ≠ .evicted → ¬ j.counter = some .evictions := fun j hj => by
      cases j <;> simp_all [TransitionKind.counter]
    have hrest : (new.map fun j => x.transition j die f).countP (fun t => decide (t.kind.counter = some .evictions)) = 0 := by
      rw [List.countP_eq_zero]
      intro t ht
      obtain ⟨j, hj, rfl⟩ := List.mem_map.mp ht
      exact fun h => hcounter j (hnew j hj) (of_decide_eq_true h)
    rw [List.countP_cons, hrest]
    rfl
  rw [← hu] at hrecords hlog hevictions
  refine evictsFor_of hcanonical hfull hnone hevictee ?_ ?_ ?_ hplan
  · rw [hmap', hrecords, hmap]
  · rw [hmap', hlog, hmap, hf, transition_of_pass hpass, List.map_append]
    rfl
  · rw [hcount', hevictions, hone, hcount]
    rfl

end Evicts

/-! ## Observations that evict -/

section ObserveEvicts
variable {s x t : State} {e : Nat × DefectRecord} {die : Nat} {o : TestAnswer}

/-- An observation that confirms at once, in a full map with a record to evict (R109, R119). -/
theorem observe_evicting_confirmed (hmade : makeRoom x = some (x.evicting e))
    (hnone : Table.fetch x.map.records die = none) (ho : o = .shorted ∨ (o = .opened ∧ x.params.c = 1)) :
    ∃ w, Logs x w (x.transition .evicted e.1 e.2.fault :: [TransitionKind.newSuspect].map fun j => x.transition j die (foundFault o))
        (Table.store (Table.discard x.map.records e.1) die (sensedRecord .confirmed (foundFault o) 0 x.scan.passNumber))
        x.sense.long ∧ observe die o x = announce .confirmed die (foundFault o) true false w := by
  have honly := (evicting_logs x e).acts.only
  obtain ⟨w, hlogs, hlast⟩ := observeNew_confirmed (die := die) hmade (by rw [honly.params]; exact ho)
  have hscan : (x.evicting e).scan = x.scan := honly.scan
  have hlong : (x.evicting e).sense.long = x.sense.long := by rw [(evicting_logs x e).sense]
  rw [hscan, hlong, transition_of_pass (s := x) (congrArg Scan.passNumber hscan)] at hlogs
  exact ⟨w, evicting_put_logs hlogs, (observe_of_none hnone o).trans hlast⟩

/-- An OPEN that needs more tests, in a full map with a record to evict (R109, R119). -/
theorem observe_evicting_opened (hmade : makeRoom x = some (x.evicting e))
    (hnone : Table.fetch x.map.records die = none) (hc : 1 < x.params.c) (hw : x.params.c ≤ x.params.w) :
    Logs x (observe die .opened x) [x.transition .evicted e.1 e.2.fault, x.transition .newSuspect die .opened]
      (Table.store (Table.discard x.map.records e.1) die (sensedRecord .suspect .opened 1 x.scan.passNumber))
      x.sense.long := by
  have honly := (evicting_logs x e).acts.only
  have hlogs := observeNew_opened (die := die) hmade (by rw [honly.params]; exact hc) (by rw [honly.params]; exact hw)
  have hscan : (x.evicting e).scan = x.scan := honly.scan
  have hlong : (x.evicting e).sense.long = x.sense.long := by rw [(evicting_logs x e).sense]
  rw [hscan, hlong, transition_of_pass (s := x) (congrArg Scan.passNumber hscan)] at hlogs
  rw [observe_of_none hnone]
  exact evicting_put_logs hlogs

end ObserveEvicts

end Sys2Proof.Machine
end


section
/-! PROOFS. The commands and results that find the map full (R107, R119, R120), and the immediate cut (R71 to R73, R150,
R153). -/

namespace Sys2Proof.Machine

/-! ## PIN and RESTORE in a full map -/

section Commands
variable {s u : State} {m : Message} {rest : List Message} {c : Instr} {kind : Byte}
  {act : List Byte → State → State × Answer} {e : Nat × DefectRecord} {die : Nat} {r : DefectRecord}

theorem evicts_command {k : TransitionKind} {f : DieFault} {a : Bool} (h : Handing s m rest) (hkind : m.kind = kind)
    (hlength : m.payload.length ∈ (payloadLengths kind).getD []) (hexec : exec c s = .next (handOn kind act s))
    (hact : act m.payload s = (u, .ok (replyRecord die u)))
    (hu : u = announce k die f a false (putRecord die r (s.evicting e)))
    (hcanonical : Table.canonical s.map.records = true) (hqueue : s.map.queue.length ≤ 64)
    (hfull : s.map.records.length = 1024) (hnone : Table.fetch s.map.records die = none)
    (hevictee : evictee s.scan.passNumber s.map.records = some e) (hk : k ≠ .evicted) (hf : r.fault = f)
    (ha : r.state ≠ .pinnedGood → a = true) :
    ∃ t e, exec c s = .next t ∧ EvictsFor s t e die r [k] := by
  have hlogs := evicting_put_logs (Logs.put die r (s.evicting e))
  refine ⟨_, e, hexec.trans (congrArg Host.Outcome.next (handOn_of_ok h hkind hlength hact)), ?_⟩
  refine evictsFor_of_announced hcanonical hqueue hfull hnone hevictee rfl rfl rfl (new := []) hlogs hu hk (by simp) hf rfl rfl
    fun _ hgood hheld hunarmed => ?_
  rw [ha hgood] at hu
  exact (hlogs.announce_told (s := s) hu rfl rfl rfl hunarmed).2 hheld

/-- A PIN that creates its record in the place of the one evicted. -/
theorem acceptPin_of_evicting {x : RecordState} (hnone : Table.fetch s.map.records die = none)
    (hmade : makeRoom s = some (s.evicting e)) (hu : u = announce .pinned die .none x.dead false
      (putRecord die (hostRecord x .none .hostPin s.scan.passNumber) (s.evicting e))) :
    acceptPin die x s = (u, .ok (replyRecord die u)) := by
  have hscan : (s.evicting e).scan = s.scan := (evicting_logs s e).acts.only.scan
  subst hu
  unfold acceptPin
  rw [hnone, hmade]
  dsimp only
  rw [hscan]

/-- A RESTORE that creates its record in the place of the one evicted. -/
theorem acceptRestore_of_evicting {f : DieFault} (hnone : Table.fetch s.map.records die = none)
    (hmade : makeRoom s = some (s.evicting e)) (hu : u = announce .loaded die f true false
      (putRecord die (hostRecord .confirmed f .loaded s.scan.passNumber) (s.evicting e))) :
    acceptRestore die f s = (u, .ok (replyRecord die u)) := by
  have hscan : (s.evicting e).scan = s.scan := (evicting_logs s e).acts.only.scan
  subst hu
  unfold acceptRestore
  rw [hnone, hmade]
  dsimp only
  rw [hscan]

theorem acceptPin_of_stuck {x : RecordState} (hnone : Table.fetch s.map.records die = none) (hmade : makeRoom s = none) :
    acceptPin die x s = (s, .refuse .noRoom) := by
  unfold acceptPin
  rw [hnone, hmade]

theorem acceptRestore_of_stuck {f : DieFault} (hnone : Table.fetch s.map.records die = none) (hmade : makeRoom s = none) :
    acceptRestore die f s = (s, .refuse .noRoom) := by
  unfold acceptRestore
  rw [hnone, hmade]

end Commands

/-! ## A short report that cuts its channel -/

section Cut
variable {s : State} {die : Nat}

theorem cutChannel_counter (n : Nat) (c : Counter) (s : State) : (cutChannel n s).events.counter c = s.events.counter c := by
  unfold cutChannel
  dsimp only
  split <;> rfl

theorem cutChannel_map (n : Nat) (s : State) : (cutChannel n s).map = s.map := (cutChannel_acts n s).only.map

theorem cutChannel_passNumber (n : Nat) (s : State) : (cutChannel n s).scan.passNumber = s.scan.passNumber := by
  rw [cutChannel_scan]

end Cut

/-! ## Results that evict -/

section Result
variable {s x t : State} {e : Nat × DefectRecord} {die : Nat} {o : TestAnswer}
  (hcanonical : Table.canonical s.map.records = true) (hqueue : s.map.queue.length ≤ 64)
  (hfull : s.map.records.length = 1024) (hnone : Table.fetch s.map.records die = none)
  (hevictee : evictee s.scan.passNumber s.map.records = some e) (hmap : x.map = s.map)
  (hpass : x.scan.passNumber = s.scan.passNumber)
  (hcount : x.events.counter .evictions = s.events.counter .evictions)
include hcanonical hqueue hfull hnone hevictee hmap hpass hcount

/-- A result that confirms at once; what follows it keeps the map and counts no eviction. -/
theorem evictsFor_of_confirmed (hmade : makeRoom x = some (x.evicting e))
    (ho : o = .shorted ∨ (o = .opened ∧ x.params.c = 1)) (hmap' : t.map = (observe die o x).map)
    (hcount' : t.events.counter .evictions = (observe die o x).events.counter .evictions)
    (hplan : s.capture.held = 0 → s.capture.state ≠ .armed →
      t.plan.selectOf (dieChannel die) = t.derivedSelect (dieChannel die)) :
    EvictsFor s t e die (sensedRecord .confirmed (foundFault o) 0 s.scan.passNumber) [.newSuspect, .confirmed] := by
  obtain ⟨w, hlogs, hlast⟩ := observe_evicting_confirmed hmade (by rw [hmap]; exact hnone) ho
  rw [hpass] at hlogs
  exact evictsFor_of_announced (new := [.newSuspect]) (k := .confirmed) hcanonical hqueue hfull hnone hevictee hmap hpass
    hcount hlogs hlast (by decide) (by decide) rfl hmap' hcount' fun _ _ => hplan

/-- An OPEN that leaves its window open. -/
theorem evictsFor_of_opened (hmade : makeRoom x = some (x.evicting e)) (hc : 1 < x.params.c) (hw : x.params.c ≤ x.params.w) :
    EvictsFor s (observe die .opened x) e die (sensedRecord .suspect .opened 1 s.scan.passNumber) [.newSuspect] := by
  have hlogs := observe_evicting_opened hmade (by rw [hmap]; exact hnone) hc hw
  rw [hpass, transition_of_pass hpass, hmap] at hlogs
  refine evictsFor_of hcanonical hfull hnone hevictee hlogs.records ?_ ?_ fun hx => absurd rfl hx
  · rw [hlogs.queue (by rw [hmap]; exact hqueue), hmap]
    rfl
  · rw [hlogs.counters _ (by decide) (by decide), hcount]
    rfl

end Result

/-- Settles O22: each way to create a record, with the record evicted for it and with none to evict. -/
theorem fullMapEvicts : Obligations.FullMapEvicts := by
  intro s htables hqueue hfull now age stuck victim logged evicts fresh
  obtain ⟨hcanonical, -⟩ := htables
  refine ⟨fun m rest d0 d1 d2 k h hpayload => ?_, fun die hactive hpass hpresent hlit hnone hsome => ?_, fun g o hot hg hout hands hnone ho hparams => ?_⟩
  · intro die hset hpresent hnone
    refine ⟨fun hkind hk => ?_, fun hkind hk => ?_⟩
    · have hdie : sentIndex [d0, d1, d2, k] = die := sentIndex_cons d0 d1 d2 [k]
      have hlength : m.payload.length ∈ (payloadLengths 0x18).getD [] := by rw [hpayload]; exact List.mem_singleton.mpr rfl
      have hact : actPin m.payload s = acceptPin die (pinned k) s := by
        rw [hpayload, actPin_of_accepted hk hset (by rw [hdie]; exact hpresent), hdie]
      refine ⟨fun hstuck => refused_of_act (st := .noRoom) h hkind hlength rfl
        (hact.trans (acceptPin_of_stuck hnone (makeRoom_of_stuck hfull.ge hstuck))), fun hsome => ?_⟩
      obtain ⟨e, hevictee, hmade⟩ := makeRoom_of_suspect hfull.ge hsome
      refine evicts_command h hkind hlength rfl (hact.trans (acceptPin_of_evicting hnone hmade rfl)) rfl hcanonical hqueue hfull
        hnone hevictee (by decide) rfl fun hgood => ?_
      rw [pinned_dead, decide_eq_true_eq]
      by_contra hk0
      exact hgood (if_neg hk0)
    · have hdie : sentIndex [d0, d1, d2, k] = die := sentIndex_cons d0 d1 d2 [k]
      have hlength : m.payload.length ∈ (payloadLengths 0x1A).getD [] := by rw [hpayload]; exact List.mem_singleton.mpr rfl
      have hact : actRestore m.payload s = acceptRestore die (loadedFault k) s := by
        rw [hpayload, actRestore_of_accepted hk hset (by rw [hdie]; exact hpresent), hdie]
      refine ⟨fun hstuck => refused_of_act (st := .noRoom) h hkind hlength rfl
        (hact.trans (acceptRestore_of_stuck hnone (makeRoom_of_stuck hfull.ge hstuck))), fun hsome => ?_⟩
      obtain ⟨e, hevictee, hmade⟩ := makeRoom_of_suspect hfull.ge hsome
      exact evicts_command h hkind hlength rfl (hact.trans (acceptRestore_of_evicting hnone hmade rfl)) rfl hcanonical hqueue
        hfull hnone hevictee (by decide) rfl fun _ => rfl
  · set n := dieChannel die with hn
    set x := cutChannel n s with hx
    have hmap : x.map = s.map := cutChannel_map n s
    have hpassNumber : x.scan.passNumber = s.scan.passNumber := cutChannel_passNumber n s
    obtain ⟨e, hevictee, hmade⟩ := makeRoom_of_suspect (x := x) (by rw [hmap]; exact hfull.ge) (by rw [hmap]; exact hsome)
    have hreport : exec (.liveShortReport die) s = .next (cutRound n (observe die .shorted x)) := by
      have hgood : s.recordState die ≠ some .pinnedGood := by
        unfold State.recordState
        rw [hnone]
        simp
      show Host.Outcome.next (liveShort die s) = _
      rw [liveShort_of_lit hactive hpass hpresent ((lightsDie_iff s die).mpr hlit), if_neg hgood]
      rfl
    rw [hmap, hpassNumber] at hevictee
    refine ⟨_, e, hreport, evictsFor_of_confirmed (x := x) hcanonical hqueue hfull hnone hevictee hmap hpassNumber
      (cutChannel_counter n _ s) hmade (Or.inl rfl) (takeRound_map _ _ _) (takeRound_counter (by decide) _ _ _)
      fun hheld hunarmed => ?_⟩
    obtain ⟨w, hlogs, hlast⟩ := observe_evicting_confirmed (o := .shorted) hmade (by rw [hmap]; exact hnone) (Or.inl rfl)
    have hcapture : (observe die .shorted x).capture = s.capture := by
      have hxcapture : x.capture = s.capture := (cutChannel_acts n s).only.capture
      have hw : w.capture = s.capture := (hlogs.capture (by rw [hxcapture]; exact hunarmed)).trans hxcapture
      rw [hlast, announce_captureState_of_unarmed _ _ _ _ _ _ (by rw [hw]; exact hunarmed), hw]
    unfold cutRound
    rw [takeRound_selectOf _ _ _ (by rw [hcapture]; exact hheld), if_pos (List.mem_singleton.mpr rfl)]
    exact (derivedSelect_congr (takeRound_layout _ _ _) (takeRound_map _ _ _) _).symm
  · obtain ⟨serves, hserves, htake⟩ := takeAnswer_of_handsOn hg hout hands (diePinned_of_none hnone)
    obtain ⟨-, -, hc1, hcw, -⟩ := hparams
    set x := s.heard g.die hot serves o with hx
    have hmap : x.map = s.map := heard_map
    have hscan : x.scan = s.scan := heard_scan
    have hparams' : x.params = s.params := heard_params
    have hstep : exec (.gapTestAnswer ⟨g.die, s.sense.gapNumber⟩ o hot) s = .next (observe g.die o x) :=
      congrArg Host.Outcome.next htake
    have hxnone : Table.fetch x.map.records g.die = none := by rw [hmap]; exact hnone
    refine ⟨fun hstuck => ⟨_, hstep, ?_⟩, fun hsome => ?_⟩
    · have hmade : makeRoom x = none := makeRoom_of_stuck (by rw [hmap]; exact hfull.ge) (by rw [hmap]; exact hstuck)
      rw [observe_of_none hxnone, observeNew_of_stuck hmade ho]
      refine ⟨hmap, EventUnit.pends_raised _ _, ?_⟩
      rw [← heard_counter (s := s) (die := g.die) (o := o) (hot := hot) (serves := serves) (c := .mapFullDrops) (by decide)]
      exact EventUnit.counted_counter_self _ _
    · obtain ⟨e, hevictee, hmade⟩ := makeRoom_of_suspect (x := x) (by rw [hmap]; exact hfull.ge) (by rw [hmap]; exact hsome)
      rw [hmap, hscan] at hevictee
      have hcount : x.events.counter .evictions = s.events.counter .evictions := heard_counter (by decide)
      have hconfirms : o = .shorted ∨ (o = .opened ∧ s.params.c = 1) →
          evicts (.gapTestAnswer ⟨g.die, s.sense.gapNumber⟩ o hot) g.die (fresh .confirmed (foundFault o) 0 .sensed)
            [.newSuspect, .confirmed] := fun hnow => by
        have hnow' : o = .shorted ∨ (o = .opened ∧ x.params.c = 1) := by rw [hparams']; exact hnow
        refine ⟨_, e, hstep, evictsFor_of_confirmed hcanonical hqueue hfull hnone hevictee hmap
          (congrArg Scan.passNumber hscan) hcount hmade hnow' rfl rfl fun hheld hunarmed => ?_⟩
        obtain ⟨w, hlogs, hlast⟩ := observe_evicting_confirmed hmade hxnone hnow'
        exact (hlogs.announce_told (s := s) hlast heard_layout hparams' heard_capture hunarmed).2 hheld
      refine ⟨fun hopen hc => ?_, fun hopen hc => ?_, fun hshort => ?_⟩
      · subst hopen
        exact ⟨_, e, hstep, evictsFor_of_opened hcanonical hqueue hfull hnone hevictee hmap (congrArg Scan.passNumber hscan)
          hcount hmade (by rw [hparams']; exact hc) (by rw [hparams']; exact hcw)⟩
      · have := hconfirms (Or.inr ⟨hopen, hc⟩)
        rw [hopen] at this ⊢
        exact this
      · have := hconfirms (Or.inl hshort)
        rw [hshort] at this ⊢
        exact this

end Sys2Proof.Machine
end


section
/-! PROOFS. The immediate cut of a live short report (R71 to R73, R109, R112, R117, R150, R153). -/

namespace Sys2Proof.Machine

/-! ## A held channel keeps its pending select -/

/-- A channel that lies on a held slot of `s` still does in `t`, at the same pending select. -/
def StaysHeld (n : Nat) (s t : State) : Prop :=
  s.onHeldSlot n = true → t.onHeldSlot n = true ∧ t.plan.selectOf n = s.plan.selectOf n

section StaysHeld
variable {n : Nat} {s t u : State}

theorem StaysHeld.refl (s : State) : StaysHeld n s s := fun h => ⟨h, rfl⟩

theorem StaysHeld.trans (h : StaysHeld n s t) (k : StaysHeld n t u) : StaysHeld n s u := fun hs => by
  obtain ⟨ht, hselect⟩ := h hs
  obtain ⟨hu, hselect'⟩ := k ht
  exact ⟨hu, hselect'.trans hselect⟩

theorem StaysHeld.of_held (hlayout : t.layout = s.layout) (hheld : ∀ i, s.capture.held.getLsbD i = true →
    t.capture.held.getLsbD i = true) (hselect : t.plan.selectOf n = s.plan.selectOf n) : StaysHeld n s t := fun h => by
  refine ⟨?_, hselect⟩
  unfold State.onHeldSlot State.slotHeld at *
  rw [Bool.and_eq_true] at *
  obtain ⟨hslot, hfitted⟩ := h
  exact ⟨hheld _ hslot, by rw [hlayout]; exact hfitted⟩

theorem Logs.staysHeld {new : List Transition} {x : Table DefectRecord} {l : LongSlot} (h : Logs s t new x l) :
    StaysHeld n s t := .of_held h.acts.only.layout h.held (by rw [h.acts.only.plan])

/-- A round that derives at most channel `m` leaves a held channel at its select (R149). -/
theorem takeRound_staysHeld (m : Nat) (b : List Nat) (s : State) : StaysHeld n s (takeRound [m] b s) := fun h => by
  refine ⟨?_, ?_⟩
  · unfold State.onHeldSlot State.slotHeld
    rw [takeRound_capture, takeRound_layout]
    exact h
  · by_cases heq : n = m
    · rw [heq] at h ⊢
      exact (takeRound_of_onHeldSlot h b).1
    · exact takeRound_selectOf_of_not_mem _ _ _ (by simpa using heq)

theorem tellLog_held (k : TransitionKind) (d : Nat) (f : DieFault) (s : State) {i : Nat}
    (h : s.capture.held.getLsbD i = true) : (tellLog k d f s).capture.held.getLsbD i = true := by
  rw [← announce_capture k d f false false s]
  exact announce_held k d f false false s h

theorem announce_staysHeld (k : TransitionKind) (d : Nat) (f : DieFault) (a b : Bool) (s : State) :
    StaysHeld n s (announce k d f a b s) := by
  have hlog : StaysHeld n s (tellLog k d f s) :=
    .of_held (tellLog_layout k d f s) (fun _ => tellLog_held k d f s) (by rw [tellLog_plan])
  have hleft : ∀ u, StaysHeld n u (retestLeft k u) := fun u =>
    .of_held (retestLeft_acts k u).only.layout (fun _ hi => by rw [(retestLeft_acts k u).only.capture]; exact hi)
      (by rw [(retestLeft_acts k u).only.plan])
  have hround := hlog.trans (takeRound_staysHeld (n := n) (dieChannel d) [] (tellLog k d f s))
  rw [announce_eq]
  cases a <;> cases b
  · exact hlog
  · exact hlog.trans (hleft _)
  · exact hround
  · exact hround.trans (hleft _)

end StaysHeld

/-! ## The SHORT of a cut -/

/-- Room made leaves the plan and tells the Sense Unit nothing. -/
theorem makeRoom_logs {x x' : State} (h : makeRoom x = some x') :
    ∃ new y, Logs x x' new y x.sense.long := by
  unfold makeRoom at h
  split at h
  · obtain rfl := Option.some.inj h
    exact ⟨_, _, .refl x⟩
  · split at h
    · exact absurd h (by simp)
    · next e _ =>
      obtain rfl := Option.some.inj h
      exact ⟨_, _, evicting_logs x e⟩

/-- What the observation of a SHORT does, in outline: nothing, a drop, or edits that end in an announcement. -/
theorem observe_shorted_outline (die : Nat) (x : State) : observe die .shorted x = x ∨
    observe die .shorted x = raise .mapFull (count .mapFullDrops x) ∨
    ∃ w new y k f a b, Logs x w new y x.sense.long ∧ observe die .shorted x = announce k die f a b w := by
  cases hr : Table.fetch x.map.records die with
  | none =>
    rw [observe_of_none hr]
    cases hroom : makeRoom x with
    | none => exact Or.inr (Or.inl (observeNew_of_stuck hroom (by decide)))
    | some x' =>
      obtain ⟨new, y, hmade⟩ := makeRoom_logs hroom
      obtain ⟨w, hlogs, hlast⟩ := observeNew_confirmed (die := die) hroom (o := .shorted) (Or.inl rfl)
      have hlong : x'.sense.long = x.sense.long := by rw [hmade.sense]
      rw [hlong] at hlogs
      exact Or.inr (Or.inr ⟨w, _, _, _, _, _, _, hmade.trans hlogs, hlast⟩)
  | some r =>
    by_cases hopen : r.state = .suspect ∨ r.state = .retest
    · exact Or.inr (Or.inr ⟨_, _, _, _, _, _, _, Logs.put die _ x, observe_confirms hr hopen (Or.inl rfl)⟩)
    · obtain ⟨h1, h2⟩ := not_or.mp hopen
      exact Or.inl (observe_of_closed hr h1 h2 .shorted)

theorem observe_shorted_staysHeld (die n : Nat) (x : State) : StaysHeld n x (observe die .shorted x) := by
  obtain h | h | ⟨w, new, y, k, f, a, b, hlogs, h⟩ := observe_shorted_outline die x
  · rw [h]; exact .refl x
  · rw [h]; exact .of_held rfl (fun _ hi => hi) rfl
  · rw [h]; exact hlogs.staysHeld.trans (announce_staysHeld _ _ _ _ _ _)

theorem observe_shorted_capture (die : Nat) {x : State} (hunarmed : x.capture.state ≠ .armed) :
    (observe die .shorted x).capture = x.capture := by
  obtain h | h | ⟨w, new, y, k, f, a, b, hlogs, h⟩ := observe_shorted_outline die x
  · rw [h]
  · rw [h]; rfl
  · have hw := hlogs.capture hunarmed
    rw [h, announce_captureState_of_unarmed _ _ _ _ _ _ (by rw [hw]; exact hunarmed), hw]

/-- Settles O44: the cut, the SHORT by the die's record, and the round that follows. -/
theorem liveShortCutsChannel : Obligations.LiveShortCutsChannel := by
  intro s die hactive hpass hpresent n now logged hlit hgood
  set x := cutChannel n s with hx
  set v := observe die .shorted x with hv
  have hreport : exec (.liveShortReport die) s = .next (cutRound n v) := by
    show Host.Outcome.next (liveShort die s) = _
    rw [liveShort_of_lit hactive hpass hpresent ((lightsDie_iff s die).mpr hlit), if_neg hgood]
    rfl
  have hcut : Acts [.scan, .plan, .events] s x := cutChannel_acts n s
  have hmap : x.map = s.map := hcut.only.map
  have hsense : x.sense = s.sense := hcut.only.sense
  have hcapture : x.capture = s.capture := hcut.only.capture
  have hpassNumber : x.scan.passNumber = now := cutChannel_passNumber n s
  have hobserve : Acts dieBlocks x v := observe_acts die .shorted x
  have hround : Acts planBlocks v (cutRound n v) := cutRound_acts n v
  have hscan : (cutRound n v).scan = x.scan := hround.only.scan.trans hobserve.only.scan
  have hmapEnd : (cutRound n v).map = v.map := hround.only.map
  have hsenseEnd : (cutRound n v).sense = v.sense := hround.only.sense
  have hlogged : ∀ k, x.transition k die .shorted = logged k := fun k => by
    unfold State.transition
    rw [hpassNumber]
  have hpends : ∀ {e}, v.events.pends e = true → (cutRound n v).events.pends e = true := fun h => hround.grows.bits _ h
  refine ⟨_, hreport, ?_, ?_, fun j hj => ⟨?_, ?_⟩, ?_, fun hkept => ?_, fun hnone hroom => ⟨?_, fun hlt hqueue => ?_⟩,
    fun hnone hfull hstuck => ?_, fun r hr => ⟨fun hopen => ⟨fun d => ?_, fun hqueue => ?_, ?_⟩, fun hsuspect => ?_,
      fun hretest => ?_, fun hclosed => ?_⟩, ?_, fun hheld => ?_, fun hheld hunarmed => ?_, ?_⟩
  · rw [hscan, hx, cutChannel_liveSelectOf, if_pos rfl]
  · rw [hscan, hx, cutChannel_liveEntryOf, if_pos rfl]
  · rw [hscan, hx, cutChannel_liveSelectOf, if_neg hj]
  · rw [hscan, hx, cutChannel_liveEntryOf, if_neg hj]
  · rw [hscan, hx, cutChannel_scan]
  · refine hpends (hobserve.grows.bits _ ?_)
    rw [hx]
    unfold cutChannel
    rw [if_neg hkept]
    exact EventUnit.pends_raised _ _
  · have hxnone : Table.fetch x.map.records die = none := by rw [hmap]; exact hnone
    have hmade : ∃ x', makeRoom x = some x' ∧ x'.scan = x.scan := by
      by_cases hlt : s.map.records.length < 1024
      · exact ⟨x, makeRoom_of_room (by rw [hmap]; exact hlt), rfl⟩
      · have hsome := hroom.resolve_left hlt
        obtain ⟨e, -, hmade⟩ := makeRoom_of_suspect (x := x) (by rw [hmap]; exact Nat.le_of_not_lt hlt) (by
          rw [hmap]
          obtain ⟨e, he, hsuspect⟩ := hsome
          exact fun hall => hall e he hsuspect)
        exact ⟨_, hmade, (evicting_logs x e).acts.only.scan⟩
    obtain ⟨x', hmade, hscan'⟩ := hmade
    obtain ⟨w, hlogs, hlast⟩ := observeNew_confirmed (die := die) (o := .shorted) hmade (Or.inl rfl)
    rw [hmapEnd, hv, observe_of_none hxnone, hlast, announce_records, hlogs.records, Table.fetch_store_same, hscan',
      hpassNumber]
    rfl
  · have hxnone : Table.fetch x.map.records die = none := by rw [hmap]; exact hnone
    obtain ⟨w, hlogs, hlast⟩ := observeNew_confirmed (die := die) (o := .shorted)
      (makeRoom_of_room (s := x) (by rw [hmap]; exact hlt)) (Or.inl rfl)
    obtain ⟨-, hlog, -⟩ := hlogs.announced (die := die) (by rw [hmap]; exact hqueue) .confirmed .shorted true false (by decide)
    rw [hmapEnd, hv, observe_of_none hxnone, hlast]
    refine hlog.trans ?_
    rw [hmap, hlogged]
    show appended s.map.queue ([x.transition .newSuspect die .shorted] ++ _) = _
    rw [hlogged]
    rfl
  · have hxnone : Table.fetch x.map.records die = none := by rw [hmap]; exact hnone
    have hstuck' : v = raise .mapFull (count .mapFullDrops x) := by
      rw [hv, observe_of_none hxnone]
      exact observeNew_of_stuck (makeRoom_of_stuck (by rw [hmap]; exact hfull) (by rw [hmap]; exact hstuck)) (by decide)
    refine ⟨?_, hpends ?_, ?_⟩
    · rw [hmapEnd, hstuck']
      exact hmap
    · rw [hstuck']
      exact EventUnit.pends_raised _ _
    · unfold cutRound
      rw [takeRound_counter (by decide), hstuck', ← cutChannel_counter n .mapFullDrops s]
      exact EventUnit.counted_counter_self _ _
  · have hconfirm := observe_confirms (v := x) (by rw [hmap]; exact hr) hopen (o := .shorted) (Or.inl rfl)
    rw [hmapEnd, hv, hconfirm, announce_records, putRecord_records, Table.fetch_store, hmap, hpassNumber, observed_enter]
    rfl
  · have hconfirm := observe_confirms (v := x) (by rw [hmap]; exact hr) hopen (o := .shorted) (Or.inl rfl)
    rw [hmapEnd, hv, hconfirm, announce_queue _ _ _ _ _ _ (by rw [putRecord_queue, hmap]; exact hqueue), putRecord_queue,
      putRecord_scan, hmap, hpassNumber]
    rfl
  · have hconfirm := observe_confirms (v := x) (by rw [hmap]; exact hr) hopen (o := .shorted) (Or.inl rfl)
    refine hpends ?_
    rw [hv, hconfirm]
    exact announce_pends (by split <;> rfl) _ _ _ _ _
  · have hconfirm := observe_confirms (v := x) (by rw [hmap]; exact hr) (Or.inl hsuspect) (o := .shorted) (Or.inl rfl)
    rw [hsenseEnd, hv, hconfirm, decide_eq_true hsuspect]
    exact (announce_sense_of_stayed _ _ _ _ _).trans hsense
  · have hconfirm := observe_confirms (v := x) (by rw [hmap]; exact hr) (Or.inr hretest) (o := .shorted) (Or.inl rfl)
    have hnot : ¬ r.state = .suspect := fun h => RecordState.noConfusion (hretest.symm.trans h)
    rw [hsenseEnd, hv, hconfirm, if_neg hnot, decide_eq_false hnot]
    set w := putRecord die ((r.observed .shorted).enter .confirmed x.scan.passNumber) x with hw
    have hlong : w.sense.long = s.sense.long := by rw [hw, putRecord_sense, hsense]
    obtain ⟨-, hleft, hlast⟩ := announce_long .reconfirmed die (r.observed .shorted).fault false w (by decide)
    cases hany : w.anyRetest with
    | true => rw [Bool.not_false, hleft hany, hlong]; rfl
    | false => rw [Bool.not_false, (hlast hany).2, hlong]; rfl
  · have hkept : v = x := by
      refine observe_of_closed (by rw [hmap]; exact hr) ?_ ?_ .shorted
      · obtain h | h := hclosed <;> rw [h] <;> decide
      · obtain h | h := hclosed <;> rw [h] <;> decide
    rw [hmapEnd, hsenseEnd, hkept]
    exact ⟨hmap, hsense⟩
  · rw [hsenseEnd, (observe_tells die x .shorted).modules, hsense]
  · have hslot : x.onHeldSlot n = true := by
      have hfitted : s.layout.fitted (slotOfChannel n) = true := by
        unfold Layout.presentDie Layout.presentChannel at hpresent
        simp only [Bool.and_eq_true] at hpresent
        obtain ⟨⟨-, hfitted⟩, -⟩ := hpresent
        exact hfitted
      unfold State.onHeldSlot State.slotHeld
      rw [hcapture, hcut.only.layout, hheld, hfitted]
      rfl
    obtain ⟨hslot', hselect⟩ := observe_shorted_staysHeld die n x hslot
    obtain ⟨hkept, hdeferred⟩ := takeRound_of_onHeldSlot hslot' (n :: v.lostNeighbours n)
    refine ⟨?_, hdeferred⟩
    unfold cutRound
    rw [hkept, hselect, hx, cutChannel_pendingSelectOf, if_pos rfl]
  · have hv' : v.capture = s.capture := (observe_shorted_capture die (by rw [hcapture]; exact hunarmed)).trans hcapture
    unfold cutRound
    rw [takeRound_selectOf _ _ _ (by rw [hv']; exact hheld), if_pos (List.mem_singleton.mpr rfl)]
    exact (derivedSelect_congr (takeRound_layout _ _ _) (takeRound_map _ _ _) _).symm
  · exact ((hcut.only.mono (by decide)).trans (hobserve.only.mono (by decide))).trans (hround.only.mono (by decide))

end Sys2Proof.Machine
end


section
/-! PROOFS. Records turned in ascending die index, each with its transition: RETEST begun (R96, R115) and abandoned (R98, R118). -/

namespace Sys2Proof.Machine

/-! ## Turning the records of a selection -/

theorem Table.fetch_filter {α : Type} {t : Table α} (hc : Table.canonical t = true) (p : Nat × α → Bool) (k : Nat) :
    Table.fetch (t.filter p) k = (Table.fetch t k).filter fun v => p (k, v) := by
  refine Option.ext fun v => ?_
  rw [Table.fetch_eq_some_iff (Table.canonical_filter p hc), List.mem_filter, ← Table.fetch_eq_some_iff hc,
    Option.filter_eq_some_iff]

/-- A slot with `n` more records counted as abandoned (R97), where the step counts them. -/
def LongSlot.abandoning (l : LongSlot) (counts : Bool) (n : Nat) : LongSlot :=
  { l with abandoned := l.abandoned + if counts then n else 0 }

/-- What a step that turns the record of one die does: its record enters state `x`, and transition `k` is logged. -/
def Turns (step : State → Nat → State) (k : TransitionKind) (x : RecordState) (counts : Bool) : Prop :=
  ∀ (s : State) (die : Nat) (r : DefectRecord), Table.fetch s.map.records die = some r →
    Logs s (step s die) [s.transition k die r.fault]
      (Table.store s.map.records die (r.enter x s.scan.passNumber)) (s.sense.long.abandoning counts 1)

/-- A selection of records, turned one after another. -/
theorem Turns.foldl {step : State → Nat → State} {k : TransitionKind} {x : RecordState} {counts : Bool}
    (h : Turns step k x counts) (sel : Table DefectRecord) (s : State) (hnodup : (Table.keys sel).Nodup)
    (hsel : ∀ e ∈ sel, Table.fetch s.map.records e.1 = some e.2) :
    ∃ y, Logs s ((Table.keys sel).foldl step s) (sel.map fun e => s.transition k e.1 e.2.fault) y
        (s.sense.long.abandoning counts sel.length) ∧
      ∀ d, Table.fetch y d = ((Table.fetch sel d).map fun r => r.enter x s.scan.passNumber).or
        (Table.fetch s.map.records d) := by
  induction sel generalizing s with
  | nil =>
    refine ⟨s.map.records, ?_, fun d => rfl⟩
    have hlong : s.sense.long.abandoning counts 0 = s.sense.long := by cases counts <;> rfl
    show Logs s s [] s.map.records (s.sense.long.abandoning counts 0)
    rw [hlong]
    exact .refl s
  | cons e sel ih =>
    obtain ⟨die, r⟩ := e
    obtain ⟨hnot, hnodup⟩ := List.nodup_cons.mp hnodup
    have hone := h s die r (hsel _ List.mem_cons_self)
    have hne : ∀ f ∈ sel, f.1 ≠ die := fun f hf heq => hnot (by
      rw [← heq]
      exact List.mem_map.mpr ⟨f, hf, rfl⟩)
    obtain ⟨y, hrest, hy⟩ := ih (step s die) hnodup fun f hf => by
      rw [hone.records, Table.fetch_store, if_neg (hne f hf)]
      exact hsel f (List.mem_cons_of_mem _ hf)
    have hscan : (step s die).scan = s.scan := hone.acts.only.scan
    have hlong : (step s die).sense.long.abandoning counts sel.length =
        s.sense.long.abandoning counts (sel.length + 1) := by
      rw [hone.sense]
      unfold LongSlot.abandoning
      cases counts
      · rfl
      · simp only [if_true, Nat.add_assoc, Nat.add_comm 1]
    rw [hlong, transition_of_pass (s := s) (congrArg Scan.passNumber hscan)] at hrest
    refine ⟨y, hone.trans hrest, fun d => ?_⟩
    rw [hy, hscan, hone.records, Table.fetch_store]
    by_cases hd : d = die
    · have hnone : Table.fetch sel d = none := by
        rw [← Option.not_isSome_iff_eq_none, ← Table.mem_keys, hd]
        exact hnot
      rw [hd] at hnone ⊢
      simp [Table.fetch, hnone]
    · simp [Table.fetch, hd]

/-- The records of a canonical map that satisfy `p`, turned in ascending die index. -/
theorem Turns.selected {step : State → Nat → State} {k : TransitionKind} {x : RecordState} {counts : Bool}
    (h : Turns step k x counts) {s : State} (hc : Table.canonical s.map.records = true) (p : Nat × DefectRecord → Bool) :
    ∃ y, Logs s ((Table.keys (s.map.records.filter p)).foldl step s)
        ((s.map.records.filter p).map fun e => s.transition k e.1 e.2.fault) y
        (s.sense.long.abandoning counts (s.map.records.filter p).length) ∧
      ∀ d, Table.fetch y d = (Table.fetch s.map.records d).map fun r =>
        if p (d, r) then r.enter x s.scan.passNumber else r := by
  obtain ⟨y, hlogs, hy⟩ := h.foldl (s.map.records.filter p) s (Table.keys_nodup (Table.canonical_filter p hc)) fun e he =>
    Table.fetch_of_mem hc (List.mem_filter.mp he).1
  refine ⟨y, hlogs, fun d => ?_⟩
  rw [hy, Table.fetch_filter hc]
  cases Table.fetch s.map.records d with
  | none => rfl
  | some r =>
    by_cases hp : p (d, r) = true
    · simp [Option.filter, hp]
    · simp [Option.filter, hp]

/-! ## RETEST begun and abandoned -/

theorem beginRetest_turns : Turns beginRetest .retestBegun .retest false := by
  intro s die r hr
  unfold beginRetest
  rw [hr]
  exact (Logs.put die _ s).trans (announce_logs_of_stayed .retestBegun die r.fault (putRecord die _ s))

theorem abandonOne_turns : Turns abandonOne .retestAbandoned .confirmed true := by
  intro s die r hr
  unfold abandonOne
  rw [hr]
  exact (Logs.put die _ s).trans (announce_logs .retestAbandoned die r.fault true (putRecord die _ s)
    (announce_sense_of_abandoned die r.fault false))

/-- A RETEST stopped: its records return to CONFIRMED, each logged and counted in abandoned (R98, R99, R102, R118). -/
theorem stopLong_retest {s : State} (hc : Table.canonical s.map.records = true) (hkind : s.sense.long.kind = .retest)
    (o : LongOutcome) :
    let back := s.map.records.filter fun e => decide (e.2.state = .retest)
    (stopLong o s).sense.long = { s.sense.long with
      running := false, outcome := o, abandoned := s.sense.long.abandoned + back.length } ∧
    (∀ d, Table.fetch (stopLong o s).map.records d = (Table.fetch s.map.records d).map fun r =>
      if r.state = .retest then { r with state := .confirmed, hits := 0, passes := 0, statePass := s.scan.passNumber }
      else r) ∧
    (s.map.queue.length ≤ 64 → (stopLong o s).map.queue = appended s.map.queue (back.map fun e =>
      { kind := .retestAbandoned, die := e.1, fault := e.2.fault, pass := s.scan.passNumber })) ∧
    (stopLong o s).plan = s.plan := by
  intro back
  obtain ⟨y, hlogs, hy⟩ := abandonOne_turns.selected hc fun e => decide (e.2.state = .retest)
  have hstop : stopLong o s = endLong o (abandonRetests s) := by unfold stopLong; rw [if_pos hkind]
  rw [hstop]
  refine ⟨?_, fun d => ?_, fun hq => hlogs.queue hq, hlogs.acts.only.plan⟩
  · have hsense : (abandonRetests s).sense.long = s.sense.long.abandoning true back.length := congrArg Sense.long hlogs.sense
    simp only [endLong, State.setSense_sense, hsense]
    rfl
  · have hrecords : (endLong o (abandonRetests s)).map.records = y := hlogs.records
    rw [hrecords, hy]
    simp only [decide_eq_true_eq]
    rfl

theorem stopLong_of_other {s : State} (hkind : s.sense.long.kind ≠ .retest) (o : LongOutcome) : stopLong o s = endLong o s := by
  unfold stopLong
  rw [if_neg hkind]

/-! ## RETEST (R96) -/

theorem RecordSource.ne_hostPin_iff (x : RecordSource) : x ≠ .hostPin ↔ x = .sensed ∨ x = .loaded := by cases x <;> simp

/-- RETEST's action on a message it accepts (R96). -/
theorem actRetest_of_accepted {s : State} {p : List Byte} (h : longRefusal p s = none) {l : LongSlot} {dies : List Nat}
    (hl : startedLong .retest p s = l) (hdies : Table.keys (s.map.records.filter (retestTakes l)) = dies) {u : State}
    (hu : u = setLong { l with begun := dies.length } (dies.foldl beginRetest s)) {v : State}
    (hv : v = if dies.length = 0 then raise .longDone (endLong .complete u) else u) :
    actRetest p s = (v, .ok (scopeReply p s ++ bytesOf 2 dies.length ++ [byteOf v.sense.long.outcome.code])) := by
  subst hv hu hdies hl
  unfold actRetest
  rw [h]

/-- Settles O17: the records in scope turned in ascending die index, and the slot filled. -/
theorem retestTurnsRecords : Obligations.RetestTurnsRecords := by
  intro s m rest x0 y0 x1 y1 colours dice h hkind hpayload hset hawake hidle hx hy hx0 hy0 hcolours hdice htables cx cy scope
    inside taken n
  obtain ⟨hcanonical, -⟩ := htables
  have hscope : scopeAccepted s.layout m.payload = true := by
    rw [hpayload]
    exact (scopeAccepted_iff hset (by omega) (by omega)).mpr ⟨hx, hy, hx0, hy0, hcolours, hdice⟩
  set l : LongSlot := { LongSlot.idle with
    running := true, kind := .retest, region := scope, colours := colours.truncate 3, dice := dice.truncate 2 } with hl
  have hstarted : startedLong .retest m.payload s = l := by
    rw [hpayload]
    simp only [startedLong, clipRegion_eq hset]
    rfl
  have htaken : retestTakes l = fun e => taken e.1 e.2 := by
    funext e
    rw [Bool.eq_iff_iff]
    unfold retestTakes
    simp only [Bool.and_eq_true, decide_eq_true_eq, RecordSource.ne_hostPin_iff]
    rw [hl, inScope_sent_iff, and_assoc, show taken e.1 e.2 = decide _ from rfl, decide_eq_true_eq]
  obtain ⟨y, hlogs, hy⟩ := beginRetest_turns.selected hcanonical fun e => taken e.1 e.2
  have hcount : (Table.keys (s.map.records.filter (retestTakes l))).length = n := by
    rw [htaken]
    exact List.length_map _
  have hact := actRetest_of_accepted (longRefusal_eq_none hset hawake hidle hscope) hstarted rfl rfl rfl
  rw [hcount, htaken] at hact
  set w := (Table.keys (s.map.records.filter fun e => taken e.1 e.2)).foldl beginRetest s with hw
  set v := if n = 0 then raise .longDone (endLong .complete (setLong { l with begun := n } w))
    else setLong { l with begun := n } w with hv
  have hlong : v.sense.long = { l with
      running := decide (n ≠ 0), outcome := if n = 0 then .complete else .none, begun := n } := by
    rw [hv]
    by_cases hn : n = 0
    · rw [if_pos hn, if_pos hn, decide_eq_false (not_not.mpr hn)]
      rfl
    · rw [if_neg hn, if_neg hn, decide_eq_true hn]
      rfl
  have hmap : v.map = w.map := by rw [hv]; split <;> rfl
  have hplan : v.plan = w.plan := by rw [hv]; split <;> rfl
  have honly := (actRetest_acts m.payload s).only
  rw [hact] at honly
  have hlength : m.payload.length ∈ (payloadLengths 0x11).getD [] := by rw [hpayload]; exact List.mem_singleton.mpr rfl
  obtain ⟨hanswered, hblocks⟩ := formReply_ok (data := scopeReply m.payload s ++ bytesOf 2 n ++
    [byteOf v.sense.long.outcome.code]) h honly (by decide)
  refine ⟨_, congrArg Host.Outcome.next (handOn_of_ok h hkind hlength hact), fun d => ?_, fun hq => ?_, hlong, fun hn => ?_,
    hplan.trans hlogs.acts.only.plan, hblocks, ?_⟩
  · rw [formReply_map, hmap, hlogs.records, hy]
    rfl
  · rw [formReply_map, hmap, hlogs.queue hq]
    rfl
  · rw [formReply_events, hv, if_pos hn]
    exact EventUnit.pends_raised _ _
  · have hcode : byteOf v.sense.long.outcome.code = if n = 0 then 1 else 0 := by
      rw [hlong]
      dsimp only
      split <;> rfl
    rw [hcode, hpayload, scopeReply_eq hset] at hanswered
    rw [hcode, hpayload, scopeReply_eq hset]
    exact hanswered

/-! ## HALT of a RETEST (R98) -/

/-- Settles O19: the records given back, and the counts as they stand then. -/
theorem haltReturnsRetestRecords : Obligations.HaltReturnsRetestRecords := by
  intro s m rest h hkind hpayload hrunning hretest htables n l
  obtain ⟨hcanonical, -⟩ := htables
  obtain ⟨hlong, hrecords, hqueue, hplan⟩ := stopLong_retest hcanonical hretest .halted
  have hact : actHalt m.payload s = (raise .longDone (stopLong .halted s), .ok ([1, 2, 2] ++ (bytesOf 2 l.begun ++
      bytesOf 2 l.restored ++ bytesOf 2 l.reconfirmed ++ bytesOf 2 l.withdrawn ++ bytesOf 2 l.abandoned))) := by
    unfold actHalt
    rw [if_pos hrunning]
    simp only [raise_sense, hlong, haltedCounts, hretest]
    rfl
  have hlength : m.payload.length ∈ (payloadLengths 0x12).getD [] := by rw [hpayload]; exact List.mem_singleton.mpr rfl
  have honly := (actHalt_acts m.payload s).only
  rw [hact] at honly
  obtain ⟨hanswered, hblocks⟩ := formReply_ok (data := [1, 2, 2] ++ (bytesOf 2 l.begun ++ bytesOf 2 l.restored ++
    bytesOf 2 l.reconfirmed ++ bytesOf 2 l.withdrawn ++ bytesOf 2 l.abandoned)) h honly (by decide)
  exact ⟨_, congrArg Host.Outcome.next (handOn_of_ok h hkind hlength hact), hrecords, hqueue, hlong,
    EventUnit.pends_raised _ _, hplan, hblocks, hanswered⟩

end Sys2Proof.Machine
end


section
/-! PROOFS. Entry to STANDBY at a pass end (R64, R33, R99, R118). -/

namespace Sys2Proof.Machine

/-! ## What stopping a long command counts -/

theorem abandonOne_counter {c : Counter} (hqueue : c ≠ .transitionOverflow) (hcapture : c ≠ .captureOverwrites)
    (hboost : c ≠ .boostDrops) (s : State) (die : Nat) : (abandonOne s die).events.counter c = s.events.counter c := by
  unfold abandonOne
  split
  · rfl
  · rw [announce_counter _ _ _ _ _ _ hqueue hcapture hboost]
    exact add_zero _

theorem stopLong_counter {c : Counter} (hqueue : c ≠ .transitionOverflow) (hcapture : c ≠ .captureOverwrites)
    (hboost : c ≠ .boostDrops) (o : LongOutcome) (s : State) : (stopLong o s).events.counter c = s.events.counter c := by
  have hfold : ∀ (l : List Nat) (u : State), (l.foldl abandonOne u).events.counter c = u.events.counter c := fun l => by
    induction l with
    | nil => exact fun _ => rfl
    | cons d l ih => exact fun u => (ih _).trans (abandonOne_counter hqueue hcapture hboost u d)
  unfold stopLong
  split
  · exact hfold _ s
  · rfl

theorem stopLong_ended (o : LongOutcome) (s : State) :
    (stopLong o s).sense.long.running = false ∧ (stopLong o s).sense.long.outcome = o := ⟨rfl, rfl⟩

theorem stopLong_plan (o : LongOutcome) (s : State) : (stopLong o s).plan = s.plan := by
  have hfold : ∀ (l : List Nat) (u : State), (l.foldl abandonOne u).plan = u.plan := fun l => by
    induction l with
    | nil => exact fun _ => rfl
    | cons d l ih =>
      refine fun u => (ih _).trans ?_
      unfold abandonOne
      split
      · rfl
      · exact announce_plan_of_unchanged _ _ _ _ _
  unfold stopLong
  split
  · exact hfold _ s
  · rfl

/-! ## The blocks that fall asleep -/

section Asleep
variable {s : State}

theorem cutForStandby_of_rows (h : s.input.state = .rows) : cutForStandby s = toRx .discard (cutFrame s) := if_pos h

theorem cutForStandby_of_other (h : s.input.state ≠ .rows) : cutForStandby s = s := if_neg h

theorem fallAsleep_of_idle (h : s.sense.long.running = false) :
    fallAsleep s = cutForStandby (s.setScan s.scan.asleep) := by
  have hsense : (cutForStandby (s.setScan s.scan.asleep)).sense = s.sense := (cutForStandby_acts _).only.sense
  unfold fallAsleep
  dsimp only
  rw [hsense, h]
  rfl

theorem fallAsleep_of_running (h : s.sense.long.running = true) :
    fallAsleep s = raise .longDone (stopLong .haltedByStandby (cutForStandby (s.setScan s.scan.asleep))) := by
  have hsense : (cutForStandby (s.setScan s.scan.asleep)).sense = s.sense := (cutForStandby_acts _).only.sense
  unfold fallAsleep
  dsimp only
  rw [hsense, h]
  rfl

/-- What follows the cut changes neither the receiver, nor the store, nor the plan, nor a cut's count. -/
theorem fallAsleep_afterCut (s : State) : OnlyChanges [.map, .capture, .sense, .events]
    (cutForStandby (s.setScan s.scan.asleep)) (fallAsleep s) ∧
    (fallAsleep s).events.counter .framesCut = (cutForStandby (s.setScan s.scan.asleep)).events.counter .framesCut := by
  set c := cutForStandby (s.setScan s.scan.asleep) with hc
  cases hrunning : s.sense.long.running with
  | false =>
    rw [fallAsleep_of_idle hrunning]
    exact ⟨OnlyChanges.refl _ _, rfl⟩
  | true =>
    rw [fallAsleep_of_running hrunning]
    refine ⟨fun b hb => ?_, stopLong_counter (by decide) (by decide) (by decide) _ _⟩
    by_cases hplan : b = .plan
    · subst hplan
      exact stopLong_plan .haltedByStandby c
    · refine ((stopLong_acts .haltedByStandby c).only.trans ((raise_acts .longDone _).only.mono (by decide))) b fun hmem => ?_
      simp only [dieBlocks, List.mem_cons, List.not_mem_nil, or_false] at hmem hb
      tauto

end Asleep

/-- Settles O37: the cut, the long command and the owed reply, one after another. -/
theorem passEndEntersStandby : Obligations.PassEndEntersStandby := by
  intro s hpass hlit hwaiting closed
  set c := cutForStandby (s.setScan s.scan.asleep) with hc
  set y := fallAsleep s with hy
  have hcut : OnlyChanges [.input, .store, .events] (s.setScan s.scan.asleep) c := (cutForStandby_acts _).only
  obtain ⟨hafter, hframes⟩ := fallAsleep_afterCut s
  have hend : exec .passEnd s = .next (enterStandby s) := by
    show Host.Outcome.next (endPass s) = _
    unfold endPass
    rw [if_pos ⟨hpass, hlit⟩, if_pos hwaiting]
  have hpaid : OnlyChanges [.control] y (enterStandby s) := by
    unfold enterStandby
    dsimp only
    split
    · exact (payOwedReply_acts _).only
    · exact OnlyChanges.refl _ _
  have hsense : (enterStandby s).sense = y.sense := hpaid.sense
  have hmap : (enterStandby s).map = y.map := hpaid.map
  have hevents : (enterStandby s).events = y.events := hpaid.events
  have hcsense : c.sense = s.sense := hcut.sense
  have hcmap : c.map = s.map := hcut.map
  have hclosed : s.input.mode.closes = closed := by
    funext r
    exact FrameMode.closes_eq _ _
  refine ⟨_, hend, ?_, fun hrows => ⟨?_, ?_, ?_⟩, fun hrows => ⟨?_, ?_⟩, fun hrunning => ?_, fun hrunning hkind => ?_,
    fun hrunning hkind hcanonical => ?_, fun hidle => ?_, ?_, fun hrequested => ?_, fun m rest howed hqueue => ?_, ?_⟩
  · rw [enterStandby_scan]
    rfl
  · rw [hpaid.input, hafter.input]
    rw [cutForStandby_of_rows (s := s.setScan s.scan.asleep) hrows]
    show ({ (cutFrame (s.setScan s.scan.asleep)).input with state := .discard, escape := false } : Receiver) = _
    rw [cutFrame_input]
    rfl
  · rw [hpaid.store, hafter.store, ← hclosed]
    rw [cutForStandby_of_rows (s := s.setScan s.scan.asleep) hrows, cutFrame_eq, countTimes_eq]
    rfl
  · rw [hevents, hframes]
    rw [cutForStandby_of_rows (s := s.setScan s.scan.asleep) hrows, cutFrame_eq, countTimes_eq]
    show ((EventUnit.countedTimes s.events .rowsBad _).counted .framesCut).counter .framesCut = _
    rw [EventUnit.counted_counter_self, EventUnit.countedTimes_counter_of_ne (by decide)]
  · rw [hpaid.input, hafter.input]
    rw [cutForStandby_of_other (s := s.setScan s.scan.asleep) hrows]
    rfl
  · rw [hpaid.store, hafter.store]
    rw [cutForStandby_of_other (s := s.setScan s.scan.asleep) hrows]
    rfl
  · rw [hsense, hevents, hy, fallAsleep_of_running hrunning]
    obtain ⟨hstopped, houtcome⟩ := stopLong_ended .haltedByStandby c
    exact ⟨hstopped, houtcome, EventUnit.pends_raised _ _⟩
  · rw [hsense, hmap, hy, fallAsleep_of_running hrunning, stopLong_of_other (by rw [hcsense]; exact hkind)]
    refine ⟨hcmap, ?_⟩
    show ({ c.sense.long with running := false, outcome := .haltedByStandby } : LongSlot) = _
    rw [hcsense]
  · obtain ⟨hlong, hrecords, hlog, -⟩ := stopLong_retest (s := c) (by rw [hcmap]; exact hcanonical)
      (by rw [hcsense]; exact hkind) .haltedByStandby
    have hnow : c.scan.passNumber = (s.setScan s.scan.asleep).scan.passNumber := by rw [hcut.scan]
    rw [hcmap, hcsense] at hlong
    rw [hcmap, hnow] at hrecords hlog
    rw [hsense, hmap, hy, fallAsleep_of_running hrunning]
    exact ⟨hlong, hrecords, hlog⟩
  · rw [hsense, hmap, hy, fallAsleep_of_idle hidle]
    exact ⟨hcsense, hcmap⟩
  · rw [hpaid.plan, hafter.plan, hcut.plan]
    rfl
  · have hnot : ¬ decide (s.scan.standby = .requestedOwed) = true := by rw [hrequested]; decide
    unfold enterStandby
    dsimp only
    rw [if_neg hnot, ← hy, hafter.control, hcut.control]
    rfl
  · have hcontrol : y.control = s.control := by rw [hafter.control, hcut.control]; rfl
    unfold enterStandby payOwedReply
    dsimp only
    rw [if_pos (decide_eq_true howed), ← hy, hcontrol, hqueue]
    show (formReply m .ok standbyReply y).control = _
    unfold formReply
    rw [State.setControl_control, hcontrol, hqueue]
    rfl
  · exact (enterStandby_acts s).only

end Sys2Proof.Machine
end


section
/-! PROOFS. What a round leaves alone with nothing held and away from the channels it takes up (R138 to R142, R151), and with it
RELEASE_HOLD (R168) and RESTART (R187). -/

namespace Sys2Proof.Machine

/-! ## A round, move by move, on its own channels -/

/-- What the moves of a round with nothing held must give for `P` to hold after it, when the round derives the channels of `a`. -/
structure FreeRoundKeeps (a : List Nat) (P : State → Prop) : Prop where
  held : ∀ u, P u → u.capture.held = 0
  recompute : ∀ n u, u.plan.selectOf n = .off → P u → P (recompute n u)
  lose : ∀ n u, n ∈ a → P u → P (loseChannel n u)
  regain : ∀ n x u, n ∈ a → x ≠ .off → P u → P (regainChannel n x u)
  swap : ∀ n x u, n ∈ a → x ≠ .off → P u → P (setPendingSelect n x u)

theorem recomputeFrozen_of_none_held {s : State} (h : s.capture.held = 0) (n : Nat) : s.recomputeFrozen n = false := by
  have hslot := slotHeld_of_none_held h
  simp [State.recomputeFrozen, State.besideHeldSlot, State.onHeldSlot, hslot]

namespace FreeRoundKeeps

variable {a : List Nat} {P : State → Prop} (k : FreeRoundKeeps a P)
include k

theorem deriveOne {acc : State × IndexSet} {n : Nat} (hn : n ∈ a) (h : P acc.1) : P (deriveOne acc n).1 := by
  have hfree := selectFrozen_of_none_held (k.held _ h) n (acc.1.derivedSelect n)
  by_cases hsame : acc.1.derivedSelect n = acc.1.plan.selectOf n
  · rw [deriveOne_of_same hfree hsame]; exact h
  · by_cases hoff : acc.1.derivedSelect n = .off
    · rw [deriveOne_of_lost hfree hsame hoff]; exact k.lose n _ hn h
    · by_cases hwas : acc.1.plan.selectOf n = .off
      · rw [deriveOne_of_regained hfree hsame hwas]; exact k.regain n _ _ hn hoff h
      · rw [deriveOne_of_swapped hfree hsame hoff hwas]; exact k.swap n _ _ hn hoff h

theorem derive (l : List Nat) (hl : ∀ n ∈ l, n ∈ a) {acc : State × IndexSet} (h : P acc.1) :
    P (l.foldl Machine.deriveOne acc).1 := by
  induction l generalizing acc with
  | nil => exact h
  | cons n l ih => exact ih (fun m hm => hl m (List.mem_cons_of_mem _ hm)) (k.deriveOne (hl n List.mem_cons_self) h)

theorem recomputes (l : List Nat) {s : State} (h : P s) : P (l.foldl Machine.recomputeOrDefer s) := by
  induction l generalizing s with
  | nil => exact h
  | cons n l ih =>
    refine ih ?_
    unfold Machine.recomputeOrDefer
    rw [recomputeFrozen_of_none_held (k.held _ h)]
    split
    · exact h
    · next hlost => exact k.recompute n s (by simpa [State.isLost] using hlost) h

theorem roundEnd (b : List Nat) {s : State} (h : P s) : P (roundEnd a b s) :=
  k.recomputes _ (k.recomputes _ (k.derive a (fun _ hn => hn) h))

end FreeRoundKeeps

/-- With nothing held a round defers nothing (R149). -/
theorem takeRound_deferred {s : State} (h : s.capture.held = 0) (a b : List Nat) :
    (takeRound a b s).plan.deferred = s.plan.deferred := by
  have hkeeps : FreeRoundKeeps a fun u => u.capture.held = 0 ∧ u.plan.deferred = s.plan.deferred := by
    refine ⟨fun _ hu => hu.1, fun n u _ hu => ?_, fun n u _ hu => hu, fun n x u _ _ hu => ?_, fun n x u _ _ hu => hu⟩
    · rw [recompute_eq]; exact hu
    · rw [regainChannel_eq]; exact hu
  exact (hkeeps.roundEnd b ⟨h, rfl⟩).2

theorem fetch_boostAfter_of_not {s : State} {n m : Nat} (h : ∀ d, s.layout.neighbour n d ≠ some m) :
    Table.fetch (s.boostAfter n) m = Table.fetch s.plan.boost m := by
  have hunboosted : Table.fetch (s.layout.unboosted n s.plan.boost) m = Table.fetch s.plan.boost m :=
    Layout.fetch_unboosted_of_not _ h
  unfold State.boostAfter
  split
  · exact hunboosted
  · rw [Table.fetch_boostBack_foldl_of_not, hunboosted]
    rintro ⟨d, m'⟩ hmem rfl
    exact h d (mem_donors_neighbour hmem)

/-- With nothing held a round leaves the entry of a channel it does not derive and that neighbours no channel it derives and
no LOST one (R140, R145). -/
theorem takeRound_entryOf {s : State} {a : List Nat} {n : Nat} (hheld : s.capture.held = 0) (hn : n ∉ a)
    (hbeside : ∀ j d, s.layout.neighbour j d = some n → j ∉ a ∧ s.plan.selectOf j ≠ .off) (b : List Nat) :
    (takeRound a b s).plan.entryOf n = s.plan.entryOf n := by
  have hkeeps : FreeRoundKeeps a fun u => u.capture.held = 0 ∧ u.layout = s.layout ∧
      (∀ j, j ∉ a → u.plan.selectOf j = s.plan.selectOf j) ∧ u.plan.entryOf n = s.plan.entryOf n := by
    refine ⟨fun _ hu => hu.1, fun m u hlost ⟨hu, hl, hsel, he⟩ => ?_, fun m u hm ⟨hu, hl, hsel, he⟩ => ?_,
      fun m x u hm _ ⟨hu, hl, hsel, he⟩ => ?_, fun m x u hm _ ⟨hu, hl, hsel, he⟩ => ?_⟩
    · have hnot : ∀ d, u.layout.neighbour m d ≠ some n := fun d hd => by
        rw [hl] at hd
        obtain ⟨hma, hoff⟩ := hbeside m d hd
        exact hoff ((hsel m hma).symm.trans hlost)
      rw [recompute_eq]
      exact ⟨hu, hl, hsel, (fetch_boostAfter_of_not hnot).trans he⟩
    · refine ⟨hu, hl, fun j hj => ?_, ?_⟩
      · rw [selectOf_of_select (loseChannel_select m u) j, setPendingSelect_selectOf, if_neg (ne_of_mem_of_not_mem hm hj).symm]
        exact hsel j hj
      · have hentry : (loseChannel m u).plan.entryOf n = if n = m then none else u.plan.entryOf n :=
          Table.fetch_assign u.plan.boost m n none
        rw [hentry, if_neg (ne_of_mem_of_not_mem hm hn).symm, he]
    · have hnot : ∀ d, u.layout.neighbour m d ≠ some n := fun d hd => by
        rw [hl] at hd
        exact (hbeside m d hd).1 hm
      refine ⟨by rw [regainChannel_eq]; exact hu, by rw [regainChannel_eq]; exact hl, fun j hj => ?_, ?_⟩
      · rw [selectOf_of_select (regainChannel_select m x u) j, setPendingSelect_selectOf, if_neg (ne_of_mem_of_not_mem hm hj).symm]
        exact hsel j hj
      · rw [regainChannel_eq]
        exact (Layout.fetch_unboosted_of_not _ hnot).trans he
    · refine ⟨hu, hl, fun j hj => ?_, he⟩
      rw [setPendingSelect_selectOf, if_neg (ne_of_mem_of_not_mem hm hj).symm]
      exact hsel j hj
  exact (hkeeps.roundEnd b ⟨hheld, rfl, fun _ _ => rfl, rfl⟩).2.2.2

/-- A round with nothing to derive, to recompute or short of a donor leaves the plan. -/
theorem takeRound_of_nothing {s : State} (h : s.plan.shortfall = []) : (takeRound [] [] s).plan = s.plan := by
  have hend : roundEnd [] [] s = s := by
    show phaseThree s = s
    unfold phaseThree
    rw [h]
    rfl
  rw [takeRound_eq, hend]
  unfold markEdited
  have hnone : changedChannels s.plan s.plan = [] := List.eq_nil_iff_forall_not_mem.mpr fun n hn => by
    rw [mem_changedChannels] at hn
    exact hn.elim (fun h => h rfl) fun h => h rfl
  rw [State.setPlan_plan, hnone]
  rfl

/-! ## Rounds that resolve the deferred channels (R151) -/

section Resolve
variable {s : State} (hheld : s.capture.held = 0) (b : List Nat)
include hheld

theorem resolve_selectOf (n : Nat) : (takeRound s.plan.deferred.keys b (clearDeferred s)).plan.selectOf n =
    if IndexSet.has s.plan.deferred n then s.derivedSelect n else s.plan.selectOf n := by
  have hselect : (clearDeferred s).plan.selectOf n = s.plan.selectOf n := rfl
  have hderived : (clearDeferred s).derivedSelect n = s.derivedSelect n := derivedSelect_congr rfl rfl n
  rw [takeRound_selectOf (clearDeferred s) _ _ hheld, hselect, hderived]
  exact if_congr (IndexSet.mem_keys_iff n s.plan.deferred) rfl rfl

theorem resolve_deferred : (takeRound s.plan.deferred.keys b (clearDeferred s)).plan.deferred = [] :=
  takeRound_deferred (s := clearDeferred s) hheld _ _

end Resolve

/-- Settles O31: the release round derives every deferred channel, and with nothing held none is deferred again. -/
theorem releaseHoldResolvesDeferred : Obligations.ReleaseHoldResolvesDeferred := by
  intro s m rest h hkind hpayload
  have hlength : m.payload.length ∈ (payloadLengths 0x2B).getD [] := by rw [hpayload]; exact List.mem_singleton.mpr rfl
  refine ⟨fun hnone => ?_, fun hsome => ?_⟩
  · have hact : actReleaseHold m.payload s = (s, .ok [0]) := if_pos hnone
    obtain ⟨hanswered, hframe⟩ := formReply_ok (data := [0]) h (OnlyChanges.refl [] s) (by decide)
    exact ⟨_, congrArg Host.Outcome.next (handOn_of_ok h hkind hlength hact), hanswered, hframe⟩
  · set v := s.setCapture { s.capture with held := 0 } with hv
    have hact : actReleaseHold m.payload s = (releaseRound v, .ok [s.capture.held]) := if_neg hsome
    have honly : OnlyChanges (.capture :: planBlocks) s (releaseRound v) :=
      ((setCapture_acts s _).only.mono (by decide)).trans ((releaseRound_acts v).only.mono (by decide))
    obtain ⟨hanswered, hframe⟩ := formReply_ok (data := [s.capture.held]) h honly (by decide)
    have hselect := fun n => resolve_selectOf (s := v) rfl v.plan.deferred.keys n
    refine ⟨_, congrArg Host.Outcome.next (handOn_of_ok h hkind hlength hact), (releaseRound_acts v).only.capture,
      resolve_deferred (s := v) rfl _, fun n hn => ?_, fun n hn => ?_, hanswered, hframe.mono (by decide)⟩
    · refine (hselect n).trans ((if_pos hn).trans ?_)
      exact derivedSelect_congr rfl rfl n
    · refine (hselect n).trans (if_neg ?_)
      show ¬ IndexSet.has s.plan.deferred n = true
      rw [hn]
      exact Bool.false_ne_true

/-! ## RESTART (R187) -/

/-- The state on which RESTART takes its round: the records given back, the modules returned, nothing held. -/
theorem restartBlocks_eq (s : State) : restartBlocks s = abortLong (restartItems (restartPicture (restartCapture s))) := rfl

section Restart
variable {s : State}

theorem restartItems_module (u : State) (i : Fin 8) : (restartItems u).sense.modules[i] = restartedModule u i := perSlot_get _ i

/-- The records after RESTART have the standings of before: a RETEST record given back is CONFIRMED (R105, R118). -/
theorem dieDead_of_turned {t : State} {p : Prop} [Decidable p] (h : ∀ d, Table.fetch t.map.records d =
    (Table.fetch s.map.records d).map fun r => if p ∧ r.state = .retest then
      { r with state := .confirmed, hits := 0, passes := 0, statePass := s.scan.passNumber } else r) (d : Nat) :
    t.dieDead d = s.dieDead d := by
  unfold State.dieDead State.recordState
  rw [h]
  cases Table.fetch s.map.records d with
  | none => rfl
  | some r =>
    by_cases hr : p ∧ r.state = .retest
    · simp [hr, RecordState.dead]
    · simp [hr]

/-- A Capture Unit that is not ARMED sees no transition of a RETEST given back (R163). -/
theorem abortLong_capture {u : State} (h : u.capture.state ≠ .armed) : (abortLong u).capture = u.capture := by
  have hfold : ∀ (dies : List Nat) (v : State), v.capture.state ≠ .armed → (dies.foldl abandonOne v).capture = v.capture :=
    fun dies => by
      induction dies with
      | nil => exact fun _ _ => rfl
      | cons d dies ih =>
        intro v hv
        have hone : (abandonOne v d).capture = v.capture := by
          unfold abandonOne
          split
          · rfl
          · exact announce_captureState_of_unarmed _ _ _ _ _ _ hv
        exact (ih _ (by rw [hone]; exact hv)).trans hone
  unfold abortLong stopLong
  split
  · split
    · exact hfold _ u h
    · rfl
  · rfl

/-- What RESTART does before its round, past the picture: the long command, and with a RETEST its records (R102, R118). -/
theorem abortLong_spec {u : State} (hcanonical : Table.canonical u.map.records = true) :
    let l := u.sense.long
    let giveBack := l.running = true ∧ l.kind = .retest
    let back := u.map.records.filter fun e => decide (e.2.state = .retest)
    (l.running = true → (abortLong u).sense.long = { l with
      running := false, outcome := .aborted
      abandoned := if l.kind = .retest then l.abandoned + back.length else l.abandoned }) ∧
    (l.running = false → (abortLong u).sense.long = l) ∧
    (∀ d, Table.fetch (abortLong u).map.records d = (Table.fetch u.map.records d).map fun r =>
      if giveBack ∧ r.state = .retest then
        { r with state := .confirmed, hits := 0, passes := 0, statePass := u.scan.passNumber }
      else r) ∧
    (giveBack → u.map.queue.length ≤ 64 → (abortLong u).map.queue = appended u.map.queue (back.map fun e =>
      { kind := .retestAbandoned, die := e.1, fault := e.2.fault, pass := u.scan.passNumber })) ∧
    (¬ giveBack → (abortLong u).map = u.map) ∧ (abortLong u).plan = u.plan := by
  intro l giveBack back
  have hsame : ∀ {p : Prop} [Decidable p], ¬ p → ∀ (o : Option DefectRecord) (f : DefectRecord → DefectRecord)
      (q : DefectRecord → Prop) [DecidablePred q], o = o.map fun r => if p ∧ q r then f r else r := by
    intro p _ hp o f q _
    cases o <;> simp [hp]
  by_cases hrunning : u.sense.long.running = true
  case neg =>
    rw [Bool.not_eq_true] at hrunning
    have hid : abortLong u = u := by unfold abortLong; rw [hrunning]; rfl
    have hno : ¬ giveBack := fun h => Bool.false_ne_true (hrunning.symm.trans h.1)
    rw [hid]
    exact ⟨fun h => Bool.noConfusion (hrunning.symm.trans h), fun _ => rfl, fun d => hsame hno _ _ _, fun h => absurd h hno,
      fun _ => rfl, rfl⟩
  case pos =>
    have hstop : abortLong u = stopLong .aborted u := by unfold abortLong; rw [hrunning]; rfl
    rw [hstop]
    by_cases hkind : u.sense.long.kind = .retest
    · obtain ⟨hlong, hrecords, hlog, hplan⟩ := stopLong_retest hcanonical hkind .aborted
      refine ⟨fun _ => ?_, fun h => Bool.noConfusion (hrunning.symm.trans h), fun d => ?_, fun _ hq => hlog hq,
        fun hno => absurd ⟨hrunning, hkind⟩ hno, hplan⟩
      · rw [hlong, if_pos hkind]
      · rw [hrecords]
        have hgive : giveBack := ⟨hrunning, hkind⟩
        simp only [hgive, true_and]
    · have hno : ¬ giveBack := fun h => hkind h.2
      rw [stopLong_of_other hkind]
      refine ⟨fun _ => ?_, fun h => Bool.noConfusion (hrunning.symm.trans h), fun d => hsame hno _ _ _, fun h => absurd h hno,
        fun _ => rfl, rfl⟩
      rw [if_neg hkind]
      rfl

end Restart

/-- Settles O35: the blocks in the order of R187, and the one round with nothing held. -/
theorem restartReturnsBlocks : Obligations.RestartReturnsBlocks := by
  intro s m rest h hkind hpayload htables l giveBack
  obtain ⟨hcanonical, -⟩ := htables
  have hlength : m.payload.length ∈ (payloadLengths 0x32).getD [] := by rw [hpayload]; exact List.mem_singleton.mpr rfl
  set u := restartItems (restartPicture (restartCapture s)) with hu
  set b := abortLong u with hb
  obtain ⟨hlong, hidle, hrecords, hlog, hkept, hplan⟩ := abortLong_spec (u := u) hcanonical
  have htells : TellsLong u b := abortLong_tells u
  have hacts : Acts dieBlocks u b := abortLong_acts u
  have hround : Acts planBlocks b (restartRound s.darkSlots b) := restartRound_acts s.darkSlots b
  have hblocks : restartBlocks s = b := rfl
  have hrestart : OnlyChanges [.events] (restartRound s.darkSlots b) (restartAll s) := by
    rw [restartAll_eq, hblocks]
    exact setEvents_only _ _
  have hsense : (restartAll s).sense = b.sense := hrestart.sense.trans hround.only.sense
  have hmap : (restartAll s).map = b.map := hrestart.map.trans hround.only.map
  have hbplan : b.plan = s.plan := hplan
  have hcapture : b.capture = Capture.powerOn := abortLong_capture (u := u) CaptureState.noConfusion
  have hheld : b.capture.held = 0 := by rw [hcapture]; rfl
  have hdead : ∀ d, b.dieDead d = s.dieDead d := dieDead_of_turned (s := s) (t := b) hrecords
  have hderived : ∀ n, b.derivedSelect n = s.derivedSelect n := fun n => by
    unfold State.derivedSelect
    rw [hdead, hdead, hacts.only.layout]
    rfl
  have hselect : ∀ n, (restartAll s).plan.selectOf n =
      if IndexSet.has s.plan.deferred n then s.derivedSelect n else s.plan.selectOf n := fun n => by
    have hresolve := resolve_selectOf hheld (b.plan.deferred.keys ++ b.lostAround s.darkSlots) n
    rw [hbplan, hderived] at hresolve
    rw [← hresolve, hrestart.plan]
    unfold restartRound
    rw [hbplan]
  have hact : actRestart m.payload s = (restartAll s, .ok []) := rfl
  obtain ⟨hanswered, hframe⟩ := formReply_ok (data := []) h (actRestart_only m.payload s) (by decide)
  refine ⟨_, congrArg Host.Outcome.next (handOn_of_ok h hkind hlength hact), ?_, ?_, ?_, restartAll_store s, ?_, ?_, ?_, ?_, ?_,
    fun i hi => ?_, fun i hi => ?_, ?_, fun hrun => ?_, fun hrun => ?_, ?_, ?_, ?_, ?_, fun n hn => ?_, fun n hn => ?_,
    fun n hn hbeside => ?_, fun hdeferred hshort hbright => ?_, ?_, hanswered, hframe.mono (by decide)⟩
  · exact (hrestart.capture.trans hround.only.capture).trans hcapture
  · exact restartAll_scan s
  · exact (hrestart.input.trans hround.only.input).trans hacts.only.input
  · have hgap := htells.gap
    rw [formReply_sense, hsense]
    exact List.map_eq_nil_iff.mp hgap
  · rw [formReply_sense, hsense, htells.requests]
    rfl
  · rw [formReply_sense, hsense, htells.sense]
    rfl
  · rw [formReply_sense, hsense, htells.sense]
    rfl
  · rw [formReply_sense, hsense, htells.sense]
    rfl
  · rw [formReply_sense, hsense, htells.modules, restartItems_module]
    exact if_pos hi
  · rw [formReply_sense, hsense, htells.modules, restartItems_module]
    unfold restartedModule
    rw [if_neg (by
      show ¬ s.layout.fitted i = true
      rw [hi]
      exact Bool.false_ne_true)]
    rfl
  · rw [formReply_sense, hsense, htells.gapNumber]
    rfl
  · rw [formReply_sense, hsense]
    exact hlong hrun
  · rw [formReply_sense, hsense]
    exact hidle hrun
  · rw [formReply_map, hmap]
    exact hrecords
  · rw [formReply_map, hmap]
    exact hlog
  · rw [formReply_map, hmap]
    exact hkept
  · rw [formReply_plan, hrestart.plan]
    exact resolve_deferred hheld _
  · exact (hselect n).trans (if_pos hn)
  · exact (hselect n).trans (if_neg (by rw [hn]; exact Bool.false_ne_true))
  · have hentry := takeRound_entryOf (s := clearDeferred b) (a := b.plan.deferred.keys) (n := n) hheld
      (by rw [IndexSet.mem_keys_iff, hbplan, hn]; exact Bool.false_ne_true) (fun j d hj => by
        obtain ⟨hdef, hoff⟩ := hbeside j d (by rw [← hj]; exact congrArg (fun x => Layout.neighbour x j d) hacts.only.layout.symm)
        rw [IndexSet.mem_keys_iff, hbplan, hdef]
        refine ⟨Bool.false_ne_true, ?_⟩
        show b.plan.selectOf j ≠ .off
        rw [hbplan]
        exact hoff) (b.plan.deferred.keys ++ b.lostAround s.darkSlots)
    rw [formReply_plan, hrestart.plan]
    refine Eq.trans hentry ?_
    show b.plan.entryOf n = _
    rw [hbplan]
  · have hdark : s.darkSlots = [] := List.eq_nil_iff_forall_not_mem.mpr fun i hi => by
      unfold State.darkSlots at hi
      simp only [List.mem_filter, Bool.and_eq_true, decide_eq_true_eq] at hi
      exact hbright i hi.2.2 hi.2.1
    have hkeys : b.plan.deferred.keys = [] := by rw [hbplan, hdeferred]; rfl
    have haround : b.lostAround s.darkSlots = [] := List.eq_nil_iff_forall_not_mem.mpr fun n hn => by
      rw [mem_lostAround, hdark] at hn
      obtain ⟨-, i, hi, -⟩ := hn
      exact absurd hi List.not_mem_nil
    have hround' : restartRound s.darkSlots b = takeRound [] [] (clearDeferred b) := by
      unfold restartRound
      rw [hkeys, haround]
      rfl
    rw [formReply_plan, hrestart.plan, hround', takeRound_of_nothing (s := clearDeferred b) (by rw [← hshort, ← hbplan]; rfl)]
    show { b.plan with deferred := [] } = s.plan
    rw [hbplan, ← hdeferred]
  · have hmask : (restartRound s.darkSlots b).events.mask = s.events.mask := hround.grows.mask.trans hacts.grows.mask
    rw [formReply_events, restartAll_eq, hblocks, State.setEvents_events]
    unfold EventUnit.restarted EventUnit.follow EventUnit.wanted
    dsimp only
    have hnone : (0 : BitVec 15) &&& ~~~s.events.mask = 0 := BitVec.zero_and
    rw [hmask, hnone]
    rfl

end Sys2Proof.Machine
end


section
/-! PROOFS. A row lit (R66 to R68, R70) and the pass start that follows a gap (R42 to R47, R57, R58, R61). -/

namespace Sys2Proof.Machine

/-! ## LIGHT_ROW -/

section LightRow
variable {s : State}

theorem driveOut_eq (s : State) (n : Nat) : s.driveOut n =
    match s.scan.selectOf n with
    | .off => 0
    | .a => s.preTrim n
    | .b => (s.preTrim n * s.layout.record.slots[slotOfChannel n].trim + 128) / 256 := rfl

/-- The pre-trim sum, term by term in the order of the directions (R67). -/
theorem preTrim_eq (s : State) (n : Nat) : s.preTrim n = s.valueOf n * 64 +
    (match s.scan.entryOf n with
      | none => 0
      | some e => s.boostTerm n e .left + s.boostTerm n e .up + s.boostTerm n e .right + s.boostTerm n e .down) := by
  unfold State.preTrim
  cases s.scan.entryOf n with
  | none => rfl
  | some e => simp only [directions, List.map_cons, List.map_nil, List.sum_cons, List.sum_nil]; omega

theorem servesRow_iff (l : Layout) (i : Fin 8) (y : Nat) : l.servesRow i y = true ↔
    l.fitted i = true ∧ i.val / 4 = y / 48 ∧ i.val % 4 < l.record.mc := by
  unfold Layout.servesRow
  simp only [Bool.and_eq_true, decide_eq_true_eq, and_assoc]

theorem slotRowChannels_eq (i : Fin 8) (y : Nat) : slotRowChannels i y =
    (List.range 144).map fun k => channelAt (48 * (i.val % 4) + k / 3) y (k % 3) := by
  refine List.map_congr_left fun k _ => ?_
  unfold channelAt
  omega

theorem rowClips_iff (y : Nat) : s.rowClips y = true ↔ s.scan.display = .active ∧
    ∃ i : Fin 8, s.layout.servesRow i y = true ∧ ∃ k < 144, 65535 < s.driveOut (channelAt (48 * (i.val % 4) + k / 3) y (k % 3)) := by
  unfold State.rowClips State.rowChannels
  simp only [Bool.and_eq_true, decide_eq_true_eq, List.any_eq_true, List.mem_flatMap, List.mem_filter, slotRowChannels_eq,
    List.mem_map, List.mem_range, mem_slotList, true_and]
  refine and_congr_right fun _ => ⟨?_, ?_⟩
  · rintro ⟨n, ⟨i, hi, k, hk, rfl⟩, hn⟩
    exact ⟨i, hi, k, hk, hn⟩
  · rintro ⟨i, hi, k, hk, hn⟩
    exact ⟨_, ⟨i, hi, k, hk, rfl⟩, hn⟩

theorem lightRow_of_pass (hpass : s.scan.phase = .pass) (hlit : s.scan.rowsLit < s.layout.height) :
    lightRow s = (markClip s.scan.rowsLit s).setScan { (markClip s.scan.rowsLit s).scan with
      ports := perSlot (s.portRow s.scan.rowsLit), rowsLit := s.scan.rowsLit + 1 } := by
  unfold lightRow
  exact if_pos ⟨hpass, hlit⟩

theorem markClip_of_clip {y : Nat} (h : s.rowClips y = true ∧ s.scan.clip = false) :
    markClip y s = count .clipPasses (s.setScan { s.scan with clip := true }) := if_pos h

theorem markClip_of_other {y : Nat} (h : ¬ (s.rowClips y = true ∧ s.scan.clip = false)) : markClip y s = s := if_neg h

end LightRow

/-- Settles O36: the model's drives are those of R67, and the row clips when one of them is clamped. -/
theorem lightRowSendsDrives : Obligations.LightRowSendsDrives := by
  intro s hpass hlit y v term pre out active drive serves sent
  have hv : ∀ n, v n = s.valueOf n := fun n => by
    show (match s.store[channelY n]? with | none => _ | some r => _) = _
    unfold State.valueOf State.pixel
    cases s.store[channelY n]? <;> rfl
  have hterm : ∀ n d, term n d = match s.scan.entryOf n with
      | none => 0
      | some e => s.boostTerm n e d := fun n d => by
    show (match (s.scan.entryOf n).bind fun e => e.share d, s.layout.neighbour n d with
      | some share, some l => v l * share / 4
      | _, _ => 0) = _
    cases s.scan.entryOf n with
    | none => rfl
    | some e =>
      show (match e.share d, s.layout.neighbour n d with
        | some share, some l => v l * share / 4
        | _, _ => 0) = s.boostTerm n e d
      unfold State.boostTerm
      cases e.share d with
      | none => rfl
      | some share =>
        cases s.layout.neighbour n d with
        | none => rfl
        | some l => dsimp only; rw [hv]
  have hpre : ∀ n, pre n = s.preTrim n := fun n => by
    show v n * 64 + term n .left + term n .up + term n .right + term n .down = _
    rw [preTrim_eq, hv, hterm, hterm, hterm, hterm]
    cases s.scan.entryOf n with
    | none => rfl
    | some e => simp only [Nat.add_assoc]
  have hout : ∀ n, out n = s.driveOut n := fun n => by
    rw [driveOut_eq, ← hpre] <;> rfl
  have hdrive : drive = if s.scan.display = .active then s.activeDrive else darkDrive := by
    funext n
    show (if s.scan.display = .active then _ else _) = _
    rw [hout]
    split
    · unfold State.activeDrive Select.lights
      cases s.scan.selectOf n <;> rfl
    · rfl
  have hserves : ∀ i, s.layout.servesRow i y = true ↔ serves i := fun i => servesRow_iff _ _ _
  have hclips : s.rowClips y = true ∧ s.scan.clip = false ↔
      active ∧ s.scan.clip = false ∧ ∃ i : Fin 8, serves i ∧ ∃ k < 144, 65535 < out (sent i k) := by
    rw [rowClips_iff]
    simp only [hserves, ← hout]
    exact ⟨fun ⟨⟨ha, hi⟩, hc⟩ => ⟨ha, hc, hi⟩, fun ⟨ha, hc, hi⟩ => ⟨⟨ha, hi⟩, hc⟩⟩
  have hmarked : (markClip y s).scan = { s.scan with clip := (markClip y s).scan.clip } := by
    by_cases hclip : s.rowClips y = true ∧ s.scan.clip = false
    · rw [markClip_of_clip hclip]; rfl
    · rw [markClip_of_other hclip]
  refine ⟨_, congrArg Host.Outcome.next (lightRow_of_pass hpass hlit), rfl, fun i => ?_, fun hclip => ?_, fun hclip => ?_, ?_, ?_⟩
  · show (perSlot (s.portRow y))[i] = _
    rw [perSlot_get]
    unfold State.portRow
    rw [slotRowChannels_eq, ← hdrive, List.map_map]
    exact if_congr (hserves i) rfl rfl
  · have hmark := markClip_of_clip (hclips.mpr hclip)
    refine ⟨?_, ?_⟩
    · show (markClip y s).scan.clip = true
      rw [hmark]; rfl
    · show (markClip y s).events = _
      rw [hmark]; rfl
  · have hmark := markClip_of_other (fun h => hclip (hclips.mp h))
    refine ⟨?_, ?_⟩
    · show (markClip y s).scan.clip = _
      rw [hmark]
    · show (markClip y s).events = _
      rw [hmark]
  · rw [State.setScan_scan, hmarked]
  · exact (lightRow_of_pass hpass hlit) ▸ (lightRow_acts s).only

end Sys2Proof.Machine
end


section
/-! PROOFS. READ_PLAN (R155, R191). -/

namespace Sys2Proof.Machine

/-! ## The first entries of an ascending list -/

/-- The front of a list that ascends in rank is the first of what the list holds. -/
theorem firstOf_take {α : Type} {rank : α → Nat} {ok : α → Prop} {l : List α} (hl : l.Pairwise fun a b => rank a < rank b)
    (hok : ∀ n, n ∈ l ↔ ok n) (k : Nat) : FirstOf rank ok k (l.take k) := by
  rw [← List.take_append_drop k l, List.pairwise_append] at hl
  obtain ⟨hfront, -, hacross⟩ := hl
  refine ⟨hfront, fun n hn => (hok n).mp (List.mem_of_mem_take hn), List.length_take_le k l, fun n hn hout => ?_⟩
  have hmem : n ∈ l.take k ++ l.drop k := by rw [List.take_append_drop]; exact (hok n).mpr hn
  have hrest : n ∈ l.drop k := (List.mem_append.mp hmem).resolve_left hout
  have hlong : k < l.length := by
    have := List.length_pos_of_mem hrest
    rw [List.length_drop] at this
    omega
  exact ⟨List.length_take_of_le hlong.le, fun b hb => hacross b hb n hrest⟩

section Walk

variable {l : List Nat} {k : Nat}

/-- Nothing lies beyond the front exactly when all the list holds is in it. -/
theorem drop_eq_nil_iff_of_ascending (hl : l.Pairwise (· < ·)) : l.drop k = [] ↔ ∀ n ∈ l, n ∈ l.take k := by
  have hparts : l.take k ++ l.drop k = l := List.take_append_drop k l
  constructor
  · intro h n hn
    rwa [← hparts, h, List.append_nil] at hn
  · intro h
    rw [← hparts, List.pairwise_append] at hl
    obtain ⟨-, -, hacross⟩ := hl
    refine List.eq_nil_iff_forall_not_mem.mpr fun n hn => ?_
    exact absurd (hacross n (h n (List.mem_of_mem_drop hn)) n hn) (lt_irrefl n)

theorem nextIndex_nil (given : List Nat) : nextIndex given [] = none := by
  unfold nextIndex
  cases given.getLast? <;> rfl

theorem nextIndex_of_more {given rest : List Nat} {last : Nat} (hgiven : given.getLast? = some last) (hrest : rest ≠ []) :
    nextIndex given rest = some (last + 1) := by
  obtain ⟨x, xs, rfl⟩ := List.exists_cons_of_ne_nil hrest
  simp only [nextIndex, hgiven]

/-- With something beyond a front of at least one entry, the front is not empty. -/
theorem exists_last_of_drop (hk : 0 < k) (h : l.drop k ≠ []) : ∃ last, (l.take k).getLast? = some last := by
  have hpos := List.length_pos_of_ne_nil h
  rw [List.length_drop] at hpos
  have hne : l.take k ≠ [] := fun hnil => by
    have := congrArg List.length hnil
    rw [List.length_take_of_le (by omega : k ≤ l.length), List.length_nil] at this
    omega
  exact ⟨_, List.getLast?_eq_some_getLast hne⟩

end Walk

/-! ## Channels of interest -/

section Interest

variable {s : State} {n : Nat}

theorem ofInterest_iff : s.ofInterest n = true ↔ s.layout.presentChannel n = true ∧
    (s.plan.selectOf n ≠ .a ∨ s.scan.selectOf n ≠ .a ∨ s.plan.entryOf n ≠ none ∨ s.scan.entryOf n ≠ none ∨
      IndexSet.has s.plan.edited n = true ∨ IndexSet.has s.plan.shortfall n = true ∨
      IndexSet.has s.plan.deferred n = true) := by
  simp only [State.ofInterest, Bool.and_eq_true, Bool.or_eq_true, decide_eq_true_eq, Option.isSome_iff_ne_none, or_assoc]

theorem Table.mem_keys_of_value_ne {α : Type} {d : α} {t : Table α} (h : Table.value d t n ≠ d) : n ∈ Table.keys t := by
  rw [Table.mem_keys, Option.isSome_iff_ne_none]
  exact fun hnone => h (by rw [Table.value, hnone]; rfl)

theorem Table.mem_keys_of_fetch_ne {α : Type} {t : Table α} (h : Table.fetch t n ≠ none) : n ∈ Table.keys t := by
  rwa [Table.mem_keys, Option.isSome_iff_ne_none]

theorem mem_listedChannels_iff : n ∈ s.listedChannels ↔ n ∈ s.plan.select.keys ∨ n ∈ s.scan.liveSelect.keys ∨
    n ∈ s.plan.boost.keys ∨ n ∈ s.scan.liveBoost.keys ∨ n ∈ s.plan.edited.keys ∨ n ∈ s.plan.shortfall.keys ∨
    n ∈ s.plan.deferred.keys := by
  unfold State.listedChannels
  rw [IndexSet.mem_keys_iff n, IndexSet.has_addAll, IndexSet.has_nil, Bool.or_false, decide_eq_true_eq]
  simp only [List.mem_append, or_assoc]

/-- A channel of interest stands in one of the tables, which all list no default (R155). -/
theorem mem_listedChannels_of_ofInterest (h : s.ofInterest n = true) : n ∈ s.listedChannels := by
  rw [mem_listedChannels_iff]
  obtain ⟨-, hselect | hlive | hentry | hliveEntry | hedited | hshortfall | hdeferred⟩ := ofInterest_iff.mp h
  · exact .inl (Table.mem_keys_of_value_ne hselect)
  · exact .inr (.inl (Table.mem_keys_of_value_ne hlive))
  · exact .inr (.inr (.inl (Table.mem_keys_of_fetch_ne hentry)))
  · exact .inr (.inr (.inr (.inl (Table.mem_keys_of_fetch_ne hliveEntry))))
  · exact .inr (.inr (.inr (.inr (.inl ((IndexSet.mem_keys_iff n _).mpr hedited)))))
  · exact .inr (.inr (.inr (.inr (.inr (.inl ((IndexSet.mem_keys_iff n _).mpr hshortfall))))))
  · exact .inr (.inr (.inr (.inr (.inr (.inr ((IndexSet.mem_keys_iff n _).mpr hdeferred))))))

theorem listedChannels_ascending (s : State) : s.listedChannels.Pairwise (· < ·) :=
  Table.keys_pairwise (IndexSet.canonical_addAll _ Table.canonical_nil)

/-- The channels of interest from a start index on. -/
def State.interestFrom (s : State) (start : Nat) : List Nat :=
  s.listedChannels.filter fun n => decide (start ≤ n) && s.ofInterest n

theorem mem_interestFrom_iff {start : Nat} : n ∈ s.interestFrom start ↔ start ≤ n ∧ s.ofInterest n = true := by
  simp only [State.interestFrom, List.mem_filter, Bool.and_eq_true, decide_eq_true_eq]
  exact ⟨fun h => h.2, fun h => ⟨mem_listedChannels_of_ofInterest h.2, h⟩⟩

theorem interestFrom_ascending (s : State) (start : Nat) : (s.interestFrom start).Pairwise (· < ·) :=
  (listedChannels_ascending s).filter _

end Interest

/-! ## The 14 bytes of a plan entry -/

theorem actReadPlan_of_above {s : State} {p : List Byte} (h : 55295 < sentIndex p) :
    actReadPlan p s = (s, .refuse .badArg) := if_pos h

theorem actReadPlan_of_within {s : State} {p : List Byte} (h : sentIndex p ≤ 55295) :
    actReadPlan p s = (s, .ok (indexBytes (nextIndex ((s.interestFrom (sentIndex p)).take 2)
      ((s.interestFrom (sentIndex p)).drop 2)) ++ ((s.interestFrom (sentIndex p)).take 2).flatMap (planEntryBytes s))) :=
  if_neg (Nat.not_le.mpr (Nat.lt_succ_of_le h))

/-- The share a missing entry has toward a direction is none, as the empty entry's is. -/
theorem getD_empty_share (e : Option BoostEntry) :
    (e.getD BoostEntry.empty).left = e.bind BoostEntry.left ∧ (e.getD BoostEntry.empty).up = e.bind BoostEntry.up ∧
      (e.getD BoostEntry.empty).right = e.bind BoostEntry.right ∧ (e.getD BoostEntry.empty).down = e.bind BoostEntry.down := by
  cases e <;> exact ⟨rfl, rfl, rfl, rfl⟩

/-- Settles O27: every channel of interest is listed, and the walk takes the first of them in ascending order. -/
theorem readPlanReports : Obligations.ReadPlanReports := by
  intro s m rest c0 c1 c2 h hkind hpayload start interest code bit shares directionsIn bytes
  have hlength : m.payload.length ∈ (payloadLengths 0x22).getD [] := by simp [hpayload, payloadLengths]
  have hindex : sentIndex m.payload = start := by rw [hpayload, sentIndex_cons]
  have hbytes : planEntryBytes s = bytes := funext fun n => by
    obtain ⟨hl, hu, hr, hd⟩ := getD_empty_share (s.plan.entryOf n)
    obtain ⟨hl', hu', hr', hd'⟩ := getD_empty_share (s.scan.entryOf n)
    simp only [planEntryBytes, directionSet_eq, shareBytes_eq, packBits_three, hl, hu, hr, hd, hl', hu', hr', hd']
    rfl
  have hok : ∀ n, n ∈ s.interestFrom start ↔ start ≤ n ∧ interest n := fun n => by
    rw [mem_interestFrom_iff, ofInterest_iff]
  have hascending := interestFrom_ascending s start
  refine ⟨fun habove => ?beyond, fun hwithin => ?within⟩
  case beyond => exact refused_of_act (st := .badArg) h hkind hlength rfl (actReadPlan_of_above (hindex ▸ habove))
  case within =>
    refine ⟨_, (s.interestFrom start).take 2,
      (nextIndex ((s.interestFrom start).take 2) ((s.interestFrom start).drop 2)).getD 0xFFFFFF, rfl,
      firstOf_take (rank := id) hascending hok 2, fun hall => ?_, fun ⟨n, hstart, hn, hout⟩ => ?_, ?_⟩
    · have hnil : (s.interestFrom start).drop 2 = [] :=
        (drop_eq_nil_iff_of_ascending hascending).mpr fun n hn => hall n ((hok n).mp hn).1 ((hok n).mp hn).2
      rw [hnil, nextIndex_nil]
      rfl
    · have hmore : (s.interestFrom start).drop 2 ≠ [] := fun hnil =>
        hout ((drop_eq_nil_iff_of_ascending hascending).mp hnil n ((hok n).mpr ⟨hstart, hn⟩))
      obtain ⟨last, hlast⟩ := exists_last_of_drop (by decide) hmore
      exact ⟨last, hlast, by rw [nextIndex_of_more hlast hmore]; rfl⟩
    · have hact := actReadPlan_of_within (s := s) (p := m.payload) (hindex ▸ hwithin)
      rw [hindex, hbytes] at hact
      exact handOn_reports h hkind hlength hact

end Sys2Proof.Machine
end


section
/-! PROOFS. The end of an ACTIVE gap: what its unanswered tests do to the modules, the plan and the survey (R79, R87, R90,
R94, R95). -/

namespace Sys2Proof.Machine

/-! ## The module of an unanswered test (R87) -/

/-- The items of a module that did not answer a test. -/
def ModuleItem.silent (m : ModuleItem) : ModuleItem :=
  { m with
    noAnswer := min 3 (m.noAnswer + 1)
    state := if min 3 (m.noAnswer + 1) = 3 ∧ (m.state = .online ∨ m.state = .hot) then .dark else m.state }

theorem ModuleItem.silent_state_eq_dark {m : ModuleItem} (h : m.silent.state ≠ m.state) : m.silent.state = .dark := by
  unfold ModuleItem.silent at h ⊢
  dsimp only at h ⊢
  split
  · rfl
  · next hstays => exact absurd (if_neg hstays) h

theorem ModuleItem.silent_state_of_dark {m : ModuleItem} (h : m.state = .dark) : m.silent.state = .dark := by
  unfold ModuleItem.silent
  dsimp only
  rw [h, ite_self]

/-- What `k` unanswered tests in turn leave of a module's items: the run holds at 3, and one that reaches 3 makes an ONLINE
or HOT module DARK (R87). -/
theorem ModuleItem.silent_iterate {m : ModuleItem} (h : m.noAnswer ≤ 3) (k : Nat) : ModuleItem.silent^[k] m =
    { m with
      noAnswer := min 3 (m.noAnswer + k)
      state := if 1 ≤ k ∧ 3 ≤ m.noAnswer + k ∧ (m.state = .online ∨ m.state = .hot) then .dark else m.state } := by
  induction k with
  | zero => simp [h]
  | succ k ih =>
    rw [Function.iterate_succ_apply', ih]
    unfold ModuleItem.silent
    dsimp only
    rw [show min 3 (min 3 (m.noAnswer + k) + 1) = min 3 (m.noAnswer + (k + 1)) by omega]
    rw [ModuleItem.mk.injEq]
    refine ⟨?_, rfl, rfl, rfl⟩
    by_cases hearly : 1 ≤ k ∧ 3 ≤ m.noAnswer + k ∧ (m.state = .online ∨ m.state = .hot)
    · rw [if_pos hearly, ite_self]
      obtain ⟨-, hrun, hlit⟩ := hearly
      rw [if_pos ⟨by omega, by omega, hlit⟩]
    · rw [if_neg hearly]
      refine if_congr ?_ rfl rfl
      constructor
      · rintro ⟨hrun, hlit⟩
        exact ⟨by omega, by omega, hlit⟩
      · rintro ⟨-, hrun, hlit⟩
        exact ⟨by omega, hlit⟩

section Silent
variable {s : State} {i : Fin 8}

theorem noAnswerModule_of_falls (h : (s.sense.modules[i]).silent.state ≠ (s.sense.modules[i]).state) :
    noAnswerModule i s = darkRound i (raise .moduleDark (setModule i (s.sense.modules[i]).silent s)) := by
  have hfalls : min 3 ((s.sense.modules[i]).noAnswer + 1) = 3 ∧
      ((s.sense.modules[i]).state = .online ∨ (s.sense.modules[i]).state = .hot) := by
    by_contra hstays
    exact h (if_neg hstays)
  have hsilent : (s.sense.modules[i]).silent =
      { s.sense.modules[i] with noAnswer := min 3 ((s.sense.modules[i]).noAnswer + 1), state := .dark } := by
    unfold ModuleItem.silent
    rw [if_pos hfalls]
  rw [hsilent]
  exact if_pos hfalls

theorem noAnswerModule_of_stays (h : (s.sense.modules[i]).silent.state = (s.sense.modules[i]).state) :
    noAnswerModule i s = setModule i (s.sense.modules[i]).silent s := by
  have hstays : ¬ (min 3 ((s.sense.modules[i]).noAnswer + 1) = 3 ∧
      ((s.sense.modules[i]).state = .online ∨ (s.sense.modules[i]).state = .hot)) := fun hfalls => by
    have hdark : (s.sense.modules[i]).silent.state = .dark := if_pos hfalls
    rw [← h, hdark] at hfalls
    exact hfalls.2.elim ModuleState.noConfusion ModuleState.noConfusion
  have hsilent : (s.sense.modules[i]).silent =
      { s.sense.modules[i] with noAnswer := min 3 ((s.sense.modules[i]).noAnswer + 1) } := by
    unfold ModuleItem.silent
    rw [if_neg hstays]
  rw [hsilent]
  exact if_neg hstays

theorem noAnswerModule_sense (i : Fin 8) (s : State) :
    (noAnswerModule i s).sense = (setModule i (s.sense.modules[i]).silent s).sense := by
  by_cases h : (s.sense.modules[i]).silent.state = (s.sense.modules[i]).state
  · rw [noAnswerModule_of_stays h]
  · rw [noAnswerModule_of_falls h, (darkRound_acts i _).only.sense]
    rfl

theorem noAnswerModule_counter {c : Counter} (h : c ≠ .boostDrops) (i : Fin 8) (s : State) :
    (noAnswerModule i s).events.counter c = s.events.counter c := by
  by_cases hstays : (s.sense.modules[i]).silent.state = (s.sense.modules[i]).state
  · rw [noAnswerModule_of_stays hstays]; rfl
  · rw [noAnswerModule_of_falls hstays, darkRound, takeRound_counter h]; rfl

theorem noAnswerModule_edited {n : Nat} (h : IndexSet.has s.plan.edited n = true) (i : Fin 8) :
    IndexSet.has (noAnswerModule i s).plan.edited n = true := by
  by_cases hstays : (s.sense.modules[i]).silent.state = (s.sense.modules[i]).state
  · rw [noAnswerModule_of_stays hstays]; exact h
  · rw [noAnswerModule_of_falls hstays, darkRound, takeRound_has_edited, Bool.or_eq_true]
    exact .inl h

end Silent

/-! ## The unanswered tests of a gap, in turn -/

/-- Module `i` has changed its state from `s` to `u`. -/
def StateMoved (s u : State) (i : Fin 8) : Prop := (u.sense.modules[i]).state ≠ (s.sense.modules[i]).state

/-- What the unanswered tests of `tests`, taken in turn from `s`, leave in `u` (R87, R94). -/
structure Unanswered (s : State) (tests : Table Bool) (u : State) : Prop where
  acts : Acts moduleBlocks s u
  modules : ∀ i : Fin 8, u.sense.modules[i] =
    ModuleItem.silent^[tests.countP fun e => decide (slotOfDie e.1 = i)] s.sense.modules[i]
  long : u.sense.long = { s.sense.long with skipped := s.sense.long.skipped + tests.countP Prod.snd }
  gapNumber : u.sense.gapNumber = s.sense.gapNumber
  plan_of_none : (∀ i, ¬ StateMoved s u i) → u.plan = s.plan
  plan_of_one : ∀ i : Fin 8, (∀ j, StateMoved s u j ↔ j = i) →
    u.plan = (takeRound [] (s.lostAround [i]) (s.setSense { s.sense with modules := u.sense.modules })).plan
  dark : ∀ i, StateMoved s u i → (u.sense.modules[i]).state = .dark ∧ u.events.pends .moduleDark = true
  counter : ∀ c, c ≠ .boostDrops → u.events.counter c = s.events.counter c
  edited : ∀ n, IndexSet.has s.plan.edited n = true → IndexSet.has u.plan.edited n = true

theorem unanswered_nil (s : State) : Unanswered s [] s where
  acts := .refl _ s
  modules _ := rfl
  long := rfl
  gapNumber := rfl
  plan_of_none _ := rfl
  plan_of_one i h := absurd rfl ((h i).mpr rfl)
  dark _ h := absurd rfl h
  counter _ _ := rfl
  edited _ h := h

section TakeNoAnswer
variable (u : State) (e : Nat × Bool)

theorem takeNoAnswer_eq : takeNoAnswer u e =
    (noAnswerModule (slotOfDie e.1) (markTaken e.1 u)).setSense (takeNoAnswer u e).sense := by
  unfold takeNoAnswer slotOfDie
  dsimp only
  split <;> rfl

theorem takeNoAnswer_plan : (takeNoAnswer u e).plan = (noAnswerModule (slotOfDie e.1) (markTaken e.1 u)).plan := by
  rw [takeNoAnswer_eq]; rfl

theorem takeNoAnswer_events : (takeNoAnswer u e).events = (noAnswerModule (slotOfDie e.1) (markTaken e.1 u)).events := by
  rw [takeNoAnswer_eq]; rfl

theorem takeNoAnswer_modules (i : Fin 8) : (takeNoAnswer u e).sense.modules[i] =
    if i = slotOfDie e.1 then (u.sense.modules[i]).silent else u.sense.modules[i] := by
  have hmodule : (takeNoAnswer u e).sense.modules =
      (noAnswerModule (slotOfDie e.1) (markTaken e.1 u)).sense.modules := by
    unfold takeNoAnswer slotOfDie
    dsimp only
    split <;> rfl
  rw [hmodule, noAnswerModule_sense, setModule_modules]
  split
  · next heq => rw [heq]; rfl
  · rfl

theorem takeNoAnswer_long : (takeNoAnswer u e).sense.long =
    { u.sense.long with skipped := u.sense.long.skipped + if e.2 = true then 1 else 0 } := by
  have hmodule : (noAnswerModule (slotOfDie e.1) (markTaken e.1 u)).sense.long = u.sense.long := by
    rw [noAnswerModule_sense]; rfl
  unfold takeNoAnswer
  dsimp only
  split
  · exact congrArg (fun l : LongSlot => { l with skipped := l.skipped + 1 }) hmodule
  · exact hmodule

theorem takeNoAnswer_gapNumber : (takeNoAnswer u e).sense.gapNumber = u.sense.gapNumber := by
  have hmodule : (noAnswerModule (slotOfDie e.1) (markTaken e.1 u)).sense.gapNumber = u.sense.gapNumber := by
    rw [noAnswerModule_sense]; rfl
  unfold takeNoAnswer
  dsimp only
  split <;> exact hmodule

variable {u e}

/-- A test whose module keeps its state leaves the plan and the events. -/
theorem takeNoAnswer_of_stays (h : ¬ StateMoved u (takeNoAnswer u e) (slotOfDie e.1)) :
    (takeNoAnswer u e).plan = u.plan ∧ (takeNoAnswer u e).events = u.events := by
  have hstays : ((markTaken e.1 u).sense.modules[slotOfDie e.1]).silent.state =
      ((markTaken e.1 u).sense.modules[slotOfDie e.1]).state := by
    unfold StateMoved at h
    rw [takeNoAnswer_modules, if_pos rfl] at h
    exact not_not.mp h
  rw [takeNoAnswer_plan, takeNoAnswer_events, noAnswerModule_of_stays hstays]
  exact ⟨rfl, rfl⟩

/-- A test whose module falls DARK takes the round of that module. -/
theorem takeNoAnswer_of_falls (h : StateMoved u (takeNoAnswer u e) (slotOfDie e.1)) :
    (takeNoAnswer u e).plan = (takeRound [] (u.lostAround [slotOfDie e.1])
        (u.setSense { u.sense with modules := (takeNoAnswer u e).sense.modules })).plan ∧
      (takeNoAnswer u e).events.pends .moduleDark = true := by
  have hfalls : ((markTaken e.1 u).sense.modules[slotOfDie e.1]).silent.state ≠
      ((markTaken e.1 u).sense.modules[slotOfDie e.1]).state := by
    unfold StateMoved at h
    rw [takeNoAnswer_modules, if_pos rfl] at h
    exact h
  rw [takeNoAnswer_plan, takeNoAnswer_events, noAnswerModule_of_falls hfalls]
  refine ⟨?_, (darkRound_acts _ _).grows.bits _ (EventUnit.pends_raised _ _)⟩
  have hsees : RoundSees (u.setSense { u.sense with modules := (takeNoAnswer u e).sense.modules })
      (raise .moduleDark (setModule (slotOfDie e.1) ((markTaken e.1 u).sense.modules[slotOfDie e.1]).silent
        (markTaken e.1 u))) := by
    refine ⟨rfl, fun j => congrArg ModuleItem.state ?_, rfl, rfl, rfl, rfl⟩
    rw [raise_sense, setModule_modules]
    show _ = (takeNoAnswer u e).sense.modules[j]
    rw [takeNoAnswer_modules]
    split
    · next heq => rw [heq]; rfl
    · rfl
  exact hsees.takeRound_plan [] _

end TakeNoAnswer

/-- One more unanswered test. -/
theorem Unanswered.another {s u : State} {tests : Table Bool} (h : Unanswered s tests u) (e : Nat × Bool) :
    Unanswered s (tests ++ [e]) (takeNoAnswer u e) := by
  have hstep : ∀ j, j ≠ slotOfDie e.1 → (takeNoAnswer u e).sense.modules[j] = u.sense.modules[j] := fun j hj => by
    rw [takeNoAnswer_modules, if_neg hj]
  have hmoved : ∀ j, StateMoved s (takeNoAnswer u e) j →
      StateMoved s u j ∨ (j = slotOfDie e.1 ∧ StateMoved u (takeNoAnswer u e) j) := fun j hj => by
    by_cases hbefore : StateMoved s u j
    · exact .inl hbefore
    · have hnow : StateMoved u (takeNoAnswer u e) j := fun heq => hj (heq.trans (not_not.mp hbefore))
      by_cases hslot : j = slotOfDie e.1
      · exact .inr ⟨hslot, hnow⟩
      · exact absurd (congrArg ModuleItem.state (hstep j hslot)) hnow
  have hdark : ∀ j, StateMoved s u j → (takeNoAnswer u e).sense.modules[j].state = .dark ∧
      StateMoved s (takeNoAnswer u e) j := fun j hj => by
    have hwas := (h.dark j hj).1
    have hnow : (takeNoAnswer u e).sense.modules[j].state = .dark := by
      rw [takeNoAnswer_modules]
      split
      · exact ModuleItem.silent_state_of_dark hwas
      · exact hwas
    exact ⟨hnow, by unfold StateMoved at hj ⊢; rwa [hnow, ← hwas]⟩
  exact {
    acts := h.acts.trans (takeNoAnswer_acts u e)
    modules := fun i => by
      rw [takeNoAnswer_modules, h.modules, List.countP_append, List.countP_singleton]
      by_cases hi : i = slotOfDie e.1
      · rw [if_pos hi, if_pos (by simp [hi]), Function.iterate_succ_apply']
      · rw [if_neg hi, if_neg (by simp [Ne.symm hi])]; rfl
    long := by
      rw [takeNoAnswer_long, h.long, List.countP_append, List.countP_singleton, Nat.add_assoc]
    gapNumber := (takeNoAnswer_gapNumber u e).trans h.gapNumber
    plan_of_none := fun hnone => by
      have hbefore : ∀ i, ¬ StateMoved s u i := fun i hi => hnone i (hdark i hi).2
      have hstays : ¬ StateMoved u (takeNoAnswer u e) (slotOfDie e.1) := fun hmove =>
        hnone _ fun heq => hmove (heq.trans (not_not.mp (hbefore _)).symm)
      exact (takeNoAnswer_of_stays hstays).1.trans (h.plan_of_none hbefore)
    plan_of_one := fun i hone => by
      by_cases hnow : StateMoved u (takeNoAnswer u e) (slotOfDie e.1)
      · have hfirst : ¬ StateMoved s u (slotOfDie e.1) := fun hmove => hnow ((hdark _ hmove).1.trans (h.dark _ hmove).1.symm)
        have hslot : slotOfDie e.1 = i := (hone _).mp fun heq => hnow (heq.trans (not_not.mp hfirst).symm)
        have hplan : u.plan = s.plan := h.plan_of_none fun j hj =>
          hfirst ((hslot.trans ((hone j).mp (hdark j hj).2).symm) ▸ hj)
        have honly := h.acts.only
        rw [(takeNoAnswer_of_falls hnow).1, hslot, takeRound_congr_set (c := s.lostAround [i]) fun n => by
          rw [mem_lostAround, mem_lostAround, hplan, honly.layout]]
        have hsees : RoundSees (s.setSense { s.sense with modules := (takeNoAnswer u e).sense.modules })
            (u.setSense { u.sense with modules := (takeNoAnswer u e).sense.modules }) :=
          ⟨honly.layout, fun _ => rfl, congrArg Capture.held honly.capture, congrArg Params.f honly.params,
            congrArg DefectMap.records honly.map, hplan⟩
        exact hsees.takeRound_plan [] _
      · have hsame : ∀ j : Fin 8, ((takeNoAnswer u e).sense.modules[j]).state = (u.sense.modules[j]).state := fun j => by
          by_cases hslot : j = slotOfDie e.1
          · rw [hslot]; exact not_not.mp hnow
          · rw [hstep j hslot]
        have hbefore : ∀ j, StateMoved s u j ↔ j = i := fun j => by
          rw [← hone j]
          unfold StateMoved
          rw [hsame]
        rw [(takeNoAnswer_of_stays hnow).1, h.plan_of_one i hbefore]
        have hsees : RoundSees (s.setSense { s.sense with modules := (takeNoAnswer u e).sense.modules })
            (s.setSense { s.sense with modules := u.sense.modules }) :=
          ⟨rfl, fun j => (hsame j).symm, rfl, rfl, rfl, rfl⟩
        exact hsees.takeRound_plan [] _
    dark := fun i hi => by
      obtain hbefore | ⟨hslot, hnow⟩ := hmoved i hi
      · exact ⟨(hdark i hbefore).1, (takeNoAnswer_acts u e).grows.bits _ (h.dark i hbefore).2⟩
      · subst hslot
        refine ⟨?_, (takeNoAnswer_of_falls hnow).2⟩
        unfold StateMoved at hnow
        rw [takeNoAnswer_modules, if_pos rfl] at hnow ⊢
        exact ModuleItem.silent_state_eq_dark hnow
    counter := fun c hc => by
      rw [takeNoAnswer_events, noAnswerModule_counter hc]
      exact h.counter c hc
    edited := fun n hn => by
      rw [takeNoAnswer_plan]
      exact noAnswerModule_edited (s := markTaken e.1 u) (h.edited n hn) _ }

theorem unanswered_foldl (s : State) (tests : Table Bool) : Unanswered s tests (tests.foldl takeNoAnswer s) := by
  induction tests using List.reverseRecOn with
  | nil => exact unanswered_nil s
  | append_singleton tests e ih =>
    rw [List.foldl_append, List.foldl_cons, List.foldl_nil]
    exact ih.another e

/-! ## The tests that take NO_ANSWER (R79) -/

/-- A key that is not listed joins the table. -/
theorem Table.perm_store_of_none {α : Type} {t : Table α} {k : Nat} (v : α) (h : Table.fetch t k = none) :
    (Table.store t k v).Perm ((k, v) :: t) := by
  induction t with
  | nil => exact .refl _
  | cons e t ih =>
    obtain ⟨k', v'⟩ := e
    by_cases heq : k = k'
    · subst heq
      simp [Table.fetch] at h
    · have hrest : Table.fetch t k = none := by simpa [Table.fetch, heq] using h
      simp only [Table.store, heq, if_false]
      split
      · exact .refl _
      · exact ((ih hrest).cons _).trans (.swap _ _ _)

/-- Entries of different dies, none of them listed, all join the table. -/
theorem perm_storeEntries {l : List GapEntry} (hl : (l.map GapEntry.die).Nodup) {t : Table Bool}
    (ht : ∀ e ∈ l, Table.fetch t e.die = none) :
    (l.foldl (fun t e => Table.store t e.die e.serves) t).Perm (l.map (fun e => (e.die, e.serves)) ++ t) := by
  induction l generalizing t with
  | nil => exact .refl _
  | cons e l ih =>
    obtain ⟨hnew, hrest⟩ := List.nodup_cons.mp (by simpa using hl : (e.die :: l.map GapEntry.die).Nodup)
    have hfree : ∀ x ∈ l, Table.fetch (Table.store t e.die e.serves) x.die = none := fun x hx => by
      have hne : x.die ≠ e.die := fun heq => hnew (heq ▸ List.mem_map_of_mem hx)
      rw [Table.fetch_store_other _ _ hne]
      exact ht x (List.mem_cons_of_mem _ hx)
    rw [List.foldl_cons]
    exact ((ih hrest hfree).trans ((Table.perm_store_of_none e.serves (ht e List.mem_cons_self)).append_left _)).trans
      List.perm_middle

/-- With no die twice in the gap list, the outstanding tests are its outstanding entries. -/
theorem outstandingTests_perm {s : State} (h : (s.sense.gap.map GapEntry.die).Nodup) :
    s.outstandingTests.Perm ((s.sense.gap.filter GapEntry.outstanding).map fun e => (e.die, e.serves)) := by
  have hnodup : ((s.sense.gap.filter GapEntry.outstanding).map GapEntry.die).Nodup :=
    h.sublist (List.filter_sublist.map _)
  exact (perm_storeEntries hnodup fun _ _ => Table.fetch_nil _).trans (by rw [List.append_nil])

/-- How many outstanding tests have a property of their die and survey mark. -/
theorem countP_outstandingTests {s : State} (h : (s.sense.gap.map GapEntry.die).Nodup) (p : Nat × Bool → Bool) :
    s.outstandingTests.countP p = (s.sense.gap.filter fun e => e.outstanding && p (e.die, e.serves)).length := by
  rw [(outstandingTests_perm h).countP_eq, List.countP_map, List.countP_filter, List.countP_eq_length_filter]
  refine congrArg List.length (List.filter_congr fun e _ => ?_)
  exact Bool.and_comm _ _

/-! ## The end of an ACTIVE gap -/

/-- The state once every unanswered test has taken its NO_ANSWER. -/
def State.silenced (s : State) : State := s.outstandingTests.foldl takeNoAnswer s

theorem silenced_unanswered (s : State) : Unanswered s s.outstandingTests s.silenced := unanswered_foldl s _

section GapEnd
variable (s : State)

theorem surveyCheck_of_done {u : State}
    (h : u.sense.long.running = true ∧ u.sense.long.kind = .survey ∧ u.sense.long.cursor = none) :
    surveyCheck u = raise .longDone (endLong .complete u) := if_pos h

theorem surveyCheck_of_other {u : State}
    (h : ¬ (u.sense.long.running = true ∧ u.sense.long.kind = .survey ∧ u.sense.long.cursor = none)) :
    surveyCheck u = u := if_neg h

theorem senseGapEnd_plan : (senseGapEnd s).plan = s.silenced.plan := by
  show (surveyCheck (settleFalls s.silenced)).plan = _
  unfold surveyCheck
  dsimp only
  split <;> rfl

theorem senseGapEnd_counter (c : Counter) : (senseGapEnd s).events.counter c = s.silenced.events.counter c := by
  show (surveyCheck (settleFalls s.silenced)).events.counter c = _
  unfold surveyCheck
  dsimp only
  split <;> rfl

theorem senseGapEnd_grows : s.silenced.events.Grows (senseGapEnd s).events := by
  show s.silenced.events.Grows (surveyCheck (settleFalls s.silenced)).events
  unfold surveyCheck
  dsimp only
  split
  · exact EventUnit.raised_grows _ _
  · exact .refl _

theorem senseGapEnd_gapNumber : (senseGapEnd s).sense.gapNumber = s.sense.gapNumber := by
  refine Eq.trans ?_ (silenced_unanswered s).gapNumber
  show (surveyCheck (settleFalls s.silenced)).sense.gapNumber = _
  unfold surveyCheck
  dsimp only
  split <;> rfl

theorem senseGapEnd_modules (i : Fin 8) : (senseGapEnd s).sense.modules[i] =
    if s.layout.fitted i then { s.silenced.sense.modules[i] with settle := (s.silenced.sense.modules[i]).settle - 1 }
    else s.silenced.sense.modules[i] := by
  have hmodules : (senseGapEnd s).sense.modules = (settleFalls s.silenced).sense.modules := by
    show (surveyCheck (settleFalls s.silenced)).sense.modules = _
    unfold surveyCheck
    dsimp only
    split <;> rfl
  have hlayout : s.silenced.layout = s.layout := (silenced_unanswered s).acts.only.layout
  rw [hmodules]
  unfold settleFalls
  rw [State.setSense_sense, perSlot_get, hlayout]

theorem senseGapEnd_module_state (i : Fin 8) :
    ((senseGapEnd s).sense.modules[i]).state = (s.silenced.sense.modules[i]).state := by
  rw [senseGapEnd_modules]
  split <;> rfl

/-- The survey's counts at a gap end: its unanswered tests are skipped (R94). -/
theorem senseGapEnd_counts : (senseGapEnd s).sense.long.skipped = s.sense.long.skipped + s.outstandingTests.countP Prod.snd ∧
    (senseGapEnd s).sense.long.tested = s.sense.long.tested ∧ (senseGapEnd s).sense.long.faults = s.sense.long.faults := by
  have hlong := (silenced_unanswered s).long
  have hkept : (senseGapEnd s).sense.long.skipped = s.silenced.sense.long.skipped ∧
      (senseGapEnd s).sense.long.tested = s.silenced.sense.long.tested ∧
      (senseGapEnd s).sense.long.faults = s.silenced.sense.long.faults := by
    show (surveyCheck (settleFalls s.silenced)).sense.long.skipped = _ ∧
      (surveyCheck (settleFalls s.silenced)).sense.long.tested = _ ∧
      (surveyCheck (settleFalls s.silenced)).sense.long.faults = _
    unfold surveyCheck
    dsimp only
    split <;> exact ⟨rfl, rfl, rfl⟩
  rw [hlong] at hkept
  exact hkept

/-- A running survey whose cursor has passed the end is complete at the gap end (R95). -/
theorem senseGapEnd_of_done (hrunning : s.sense.long.running = true) (hkind : s.sense.long.kind = .survey)
    (hcursor : s.sense.long.cursor = none) : (senseGapEnd s).sense.long.running = false ∧
      (senseGapEnd s).sense.long.outcome = .complete ∧ (senseGapEnd s).events.pends .longDone = true := by
  have hlong : (settleFalls s.silenced).sense.long = _ := (silenced_unanswered s).long
  have hdone := surveyCheck_of_done (u := settleFalls s.silenced) (by rw [hlong]; exact ⟨hrunning, hkind, hcursor⟩)
  show (surveyCheck (settleFalls s.silenced)).sense.long.running = _ ∧
    (surveyCheck (settleFalls s.silenced)).sense.long.outcome = _ ∧
    (surveyCheck (settleFalls s.silenced)).events.pends .longDone = true
  rw [hdone]
  exact ⟨rfl, rfl, EventUnit.pends_raised _ _⟩

/-- The plan of a gap end in which one module falls DARK is that of the module's round (R139, R148). -/
theorem senseGapEnd_plan_of_one {i : Fin 8} {around : List Nat}
    (hone : ∀ j : Fin 8, ((senseGapEnd s).sense.modules[j]).state ≠ (s.sense.modules[j]).state ↔ j = i)
    (haround : ∀ n, n ∈ around ↔ s.plan.selectOf n = .off ∧ s.layout.onOrBeside i n = true) :
    (senseGapEnd s).plan =
      (takeRound [] around (s.setSense { s.sense with modules := (senseGapEnd s).sense.modules })).plan := by
  have hmoved : ∀ j, StateMoved s s.silenced j ↔ j = i := fun j => by
    rw [← hone j, senseGapEnd_module_state]
    rfl
  rw [senseGapEnd_plan, (silenced_unanswered s).plan_of_one i hmoved, takeRound_congr_set (c := around) fun n => by
    rw [mem_lostAround, haround]
    simp only [List.mem_singleton, exists_eq_left]]
  have hsees : RoundSees (s.setSense { s.sense with modules := (senseGapEnd s).sense.modules })
      (s.setSense { s.sense with modules := s.silenced.sense.modules }) :=
    ⟨rfl, fun j => (senseGapEnd_module_state s j).symm, rfl, rfl, rfl, rfl⟩
  exact hsees.takeRound_plan [] _

end GapEnd

theorem wokenCheck_of_active {s : State} (h : s.scan.display = .active) : wokenCheck s = s := by
  unfold wokenCheck
  rw [if_neg fun hwaking => Display.noConfusion (h.symm.trans hwaking.1)]

theorem endGap_of_active {s : State} (hphase : s.scan.phase = .gap) (h : s.scan.display = .active) :
    endGap s = passStart (senseGapEnd s) := by
  unfold endGap
  rw [if_pos hphase, if_pos h, wokenCheck_of_active]
  rw [(senseGapEnd_acts s).only.scan]
  exact h

/-- Settles O40: the unanswered tests one after another, then the fall of settle, the survey's end and the pass start. -/
theorem silentModulesGoDark : Obligations.SilentModulesGoDark := by
  intro s hphase hactive hnodup beside unanswered
  have honly := (passStart_acts (senseGapEnd s)).only
  have hgrows := (passStart_acts (senseGapEnd s)).grows
  have hsilenced := silenced_unanswered s
  obtain ⟨hskipped, htested, hfaults⟩ := senseGapEnd_counts s
  refine ⟨_, congrArg Host.Outcome.next (endGap_of_active hphase hactive), ?_⟩
  rw [honly.sense, honly.map, passStart_plan]
  refine ⟨rfl, rfl, senseGapEnd_gapNumber s, fun hsame => ?_, fun i around hone haround => ?_, ?_, htested, hfaults,
    fun i hfitted hrun => ?_, fun hrunning hkind hcursor => ?_, (senseGapEnd_acts s).only.map⟩
  · have hnone : ∀ i, ¬ StateMoved s s.silenced i := fun i hi => hi ((senseGapEnd_module_state s i).symm.trans (hsame i))
    rw [senseGapEnd_plan, hsilenced.plan_of_none hnone]
  · rw [senseGapEnd_plan_of_one s hone fun n => by rw [haround, onOrBeside_iff]]
  · rw [hskipped, countP_outstandingTests hnodup]
  · intro before k falls
    have hcount : (s.outstandingTests.countP fun e => decide (slotOfDie e.1 = i)) = k := countP_outstandingTests hnodup _
    have hmodule := hsilenced.modules i
    rw [hcount, ModuleItem.silent_iterate hrun] at hmodule
    refine ⟨?_, fun hfalls => ?_⟩
    · rw [senseGapEnd_modules, if_pos hfitted, hmodule]
    · have hdark : (s.silenced.sense.modules[i]).state = .dark := by rw [hmodule]; exact if_pos hfalls
      have hmoved : StateMoved s s.silenced i := fun heq => by
        obtain ⟨-, -, hlit | hlit⟩ := hfalls <;> rw [hdark, hlit] at heq <;> exact ModuleState.noConfusion heq
      exact hgrows.bits _ ((senseGapEnd_grows s).bits _ (hsilenced.dark i hmoved).2)
  · obtain ⟨hended, houtcome, hdone⟩ := senseGapEnd_of_done s hrunning hkind hcursor
    exact ⟨hended, houtcome, hgrows.bits _ hdone⟩

end Sys2Proof.Machine
end


section
/-! PROOFS. GAP_END: the pass that starts at once (R57, R58, R61, R42 to R48). -/

namespace Sys2Proof.Machine

/-! ## Events and counters of a pass start -/

namespace EventUnit

theorem pends_raised_of_ne {e x : Event} (h : x ≠ e) (u : EventUnit) : (u.raised e).pends x = u.pends x := by
  simp only [EventUnit.pends, EventUnit.raised, EventUnit.follow, BitVec.getLsbD_or, BitVec.getLsbD_twoPow]
  have hbit : e.bit ≠ x.bit := by
    revert h
    cases e <;> cases x <;> simp [Event.bit]
  simp [hbit]

theorem countedTimes_pends (c : Counter) (n : Nat) (x : Event) (u : EventUnit) :
    (u.countedTimes c n).pends x = u.pends x := by
  induction n generalizing u with
  | zero => rfl
  | succ n ih => exact (ih _).trans (pends_counted _ _ _)

theorem countedTimes_counter_self (c : Counter) (n : Nat) (u : EventUnit) :
    (u.countedTimes c n).counter c = u.counter c + BitVec.ofNat 16 n := by
  induction n generalizing u with
  | zero => exact (BitVec.add_zero _).symm
  | succ n ih =>
    refine (ih (u.counted c)).trans ?_
    rw [counted_counter_self, BitVec.add_assoc, Nat.add_comm n 1, BitVec.ofNat_add]
    rfl

end EventUnit

theorem passStart_rowsBlanked (s : State) : (passStart s).events.counter .rowsBlanked =
    s.events.counter .rowsBlanked + BitVec.ofNat 16 s.newlyStale := by
  rw [passStart_events]
  split
  · next h => rw [h]; exact (BitVec.add_zero _).symm
  · exact EventUnit.countedTimes_counter_self _ _ _

theorem passStart_pends_staleRow {s : State} (h : s.newlyStale ≠ 0) : (passStart s).events.pends .staleRow = true := by
  rw [passStart_events, if_neg h]
  exact EventUnit.pends_raised _ _

theorem passStart_pends_of_ne {x : Event} (h : x ≠ .staleRow) (s : State) :
    (passStart s).events.pends x = s.events.pends x := by
  rw [passStart_events]
  split
  · rfl
  · rw [EventUnit.pends_raised_of_ne h, EventUnit.countedTimes_pends]

/-! ## The state a gap end hands to the pass start -/

/-- The state at the end of a gap, before the pass that follows starts (R56 step 5). -/
def State.gapClosed (s : State) : State := wokenCheck (if s.scan.display = .active then senseGapEnd s else s)

theorem endGap_of_gap {s : State} (h : s.scan.phase = .gap) : endGap s = passStart s.gapClosed := if_pos h

section GapClosed
variable (s : State)

theorem wokenCheck_only : OnlyChanges [.scan, .events] s (wokenCheck s) := by
  unfold wokenCheck
  split
  · exact ((setScan_acts s _).only.mono (by decide)).trans ((raise_acts .woken _).only.mono (by decide))
  · exact .refl _ s

theorem gapClosed_only : OnlyChanges [.scan, .plan, .sense, .events] s s.gapClosed := by
  have hgap : OnlyChanges [.scan, .plan, .sense, .events] s (if s.scan.display = .active then senseGapEnd s else s) := by
    split
    · exact (senseGapEnd_acts s).only.mono (by decide)
    · exact .refl _ s
  exact hgap.trans ((wokenCheck_only _).mono (by decide))

theorem gapClosed_scan : s.gapClosed.scan =
    { s.scan with display := if s.scan.display = .waking ∧ s.scan.wakingLeft = 0 then .active else s.scan.display } := by
  unfold State.gapClosed
  rw [wokenCheck_scan, senseGapEnd_if_scan]

theorem gapClosed_of_active {s : State} (h : s.scan.display = .active) : s.gapClosed = senseGapEnd s := by
  unfold State.gapClosed
  rw [if_pos h, wokenCheck_of_active]
  rw [(senseGapEnd_acts s).only.scan]
  exact h

theorem gapClosed_of_other {s : State} (h : s.scan.display ≠ .active) : s.gapClosed = wokenCheck s := by
  unfold State.gapClosed
  rw [if_neg h]

theorem wokenCheck_counter (c : Counter) : (wokenCheck s).events.counter c = s.events.counter c := by
  unfold wokenCheck
  split <;> rfl

theorem gapClosed_counter {c : Counter} (h : c ≠ .boostDrops) : s.gapClosed.events.counter c = s.events.counter c := by
  by_cases hactive : s.scan.display = .active
  · rw [gapClosed_of_active hactive, senseGapEnd_counter]
    exact (silenced_unanswered s).counter c h
  · rw [gapClosed_of_other hactive, wokenCheck_counter]

/-- Channels marked edited stay marked until the pass start. -/
theorem gapClosed_edited {n : Nat} (h : IndexSet.has s.plan.edited n = true) :
    IndexSet.has s.gapClosed.plan.edited n = true := by
  by_cases hactive : s.scan.display = .active
  · rw [gapClosed_of_active hactive, senseGapEnd_plan]
    exact (silenced_unanswered s).edited n h
  · rw [gapClosed_of_other hactive, (wokenCheck_only s).plan]
    exact h

theorem wokenCheck_of_last {s : State} (h : s.scan.display = .waking ∧ s.scan.wakingLeft = 0) :
    wokenCheck s = raise .woken (s.setScan { s.scan with display := .active }) := if_pos h

theorem wokenCheck_of_other {s : State} (h : ¬ (s.scan.display = .waking ∧ s.scan.wakingLeft = 0)) :
    wokenCheck s = s := if_neg h

end GapClosed

/-! ## The rows -/

theorem Row.commit_of_black {r : Row} (h : r.pend = .black) : r.commit =
    if r.display = 0 then { r with slot0 := [], pend := .none, held := 0, blanked := false }
    else { r with slot1 := [], pend := .none, held := 0, blanked := false } := by
  unfold Row.commit Row.setShown
  rw [h]
  dsimp only
  split <;> rfl

theorem passRows_eq (s : State) : s.passRows = s.store.map fun r => r.commit.checked s.params.l := by
  unfold State.passRows
  rw [List.map_map]
  rfl

theorem newlyStale_eq (s : State) : s.newlyStale = (s.store.filter fun r => r.commit.stale s.params.l).length := by
  unfold State.newlyStale staleCount
  rw [List.filter_map, List.length_map]
  rfl

/-- Settles O39: the gap's end leaves the rows and keeps the edited marks, and the pass start does the rest. -/
theorem gapEndStartsPass : Obligations.GapEndStartsPass := by
  intro s hphase visited stale after newly
  have hvisited : visited = Row.commit := funext fun r => by
    cases hpend : r.pend with
    | none =>
      have hheld : (if r.held < 65535 then r.held + 1 else 65535) = min 65535 (r.held + 1) := by
        split <;> omega
      simp only [visited, Row.commit, hpend, hheld]
    | content => simp only [visited, Row.commit, hpend]
    | black =>
      rw [Row.commit_of_black hpend]
      simp only [visited, hpend]
  have hstale : stale = fun r => r.commit.stale s.params.l := by simp only [stale, hvisited]; rfl
  have hafter : after = fun r => r.commit.checked s.params.l := by simp only [after, hstale, hvisited]; rfl
  have honly := gapClosed_only s
  have hrows : s.gapClosed.passRows = s.store.map after := by
    rw [passRows_eq, honly.store, honly.params, hafter]
  have hnewly : s.gapClosed.newlyStale = newly := by
    rw [newlyStale_eq, honly.store, honly.params]
    simp only [newly, hstale]
  have hasks : s.gapClosed.asksStandby = true ↔
      s.params.autoStandby = true ∧ newly ≠ 0 ∧ ∀ r ∈ s.store, (after r).blanked = true := by
    unfold State.asksStandby
    rw [hnewly, hrows, honly.params]
    simp only [Bool.and_eq_true, decide_eq_true_eq, List.all_map, List.all_eq_true, Function.comp_apply]
    exact ⟨fun ⟨⟨hsome, hauto⟩, hall⟩ => ⟨hauto, hsome, hall⟩, fun ⟨hauto, hsome, hall⟩ => ⟨⟨hsome, hauto⟩, hall⟩⟩
  have hscan := passStart_scan s.gapClosed
  rw [gapClosed_scan] at hscan
  refine ⟨_, congrArg Host.Outcome.next (endGap_of_gap hphase), ?_⟩
  refine ⟨by rw [hscan]; rfl, by rw [hscan]; rfl, by rw [hscan]; rfl, by rw [hscan]; rfl, fun hactive => ?_,
    fun hwaking hlast => ⟨?_, ?_⟩, fun hwaking hmore => ⟨?_, ?_, ?_⟩, ?_, fun n hn => ?_, ?_, ?_, fun hsome => ?_, ?_, ?_⟩
  · rw [hscan]
    show (if s.scan.display = .waking ∧ s.scan.wakingLeft = 0 then _ else s.scan.display) = _
    rw [hactive, ite_self]
  · rw [hscan]; exact if_pos ⟨hwaking, hlast⟩
  · rw [passStart_pends_of_ne (by decide), gapClosed_of_other (by rw [hwaking]; decide), wokenCheck_of_last ⟨hwaking, hlast⟩]
    exact EventUnit.pends_raised _ _
  · rw [hscan]; exact (if_neg fun h => hmore h.2).trans hwaking
  · rw [hscan]
    show (if (if s.scan.display = .waking ∧ s.scan.wakingLeft = 0 then _ else s.scan.display) = .waking then _ else _) = _
    have hstays : ¬ (s.scan.display = .waking ∧ s.scan.wakingLeft = 0) := fun h => hmore h.2
    rw [if_neg hstays, if_pos hwaking]
  · rw [passStart_pends_of_ne (by decide), gapClosed_of_other (by rw [hwaking]; decide),
      wokenCheck_of_other fun h => hmore h.2]
  · rw [passStart_plan]
  · have hedited := gapClosed_edited s hn
    rw [passStart_selectOf, if_pos hedited, passStart_entryOf, if_pos hedited, passStart_plan]
    exact ⟨rfl, rfl⟩
  · rw [passStart_store, hrows]
  · rw [passStart_rowsBlanked, hnewly, gapClosed_counter s (by decide)]
  · exact passStart_pends_staleRow (by rw [hnewly]; exact hsome)
  · rw [hscan]
    refine if_congr ?_ rfl rfl
    rw [hasks]
    exact ⟨fun ⟨⟨hauto, hsome, hall⟩, hnone⟩ => ⟨hauto, hsome, hall, hnone⟩,
      fun ⟨hauto, hsome, hall, hnone⟩ => ⟨⟨hauto, hsome, hall⟩, hnone⟩⟩
  · exact (honly.mono (by decide)).trans ((passStart_acts _).only.mono (by decide))

end Sys2Proof.Machine
end


section
/-! PROOFS. The recompute of a channel in full (R143 to R145), and the three phases of a round (R140 to R142, R149, R150). -/

namespace Sys2Proof.Machine

/-! ## The entries that stay once the boosts at a channel are gone (R136) -/

/-- Whether an entry holds a boost besides the one aimed at channel `n`. -/
def Layout.boostRemains (l : Layout) (n : Nat) (e : Nat × BoostEntry) : Bool :=
  directions.all fun d => decide (l.neighbour n d ≠ some e.1) ||
    directions.any fun d' => decide (d' ≠ d.opposite) && (e.2.share d').isSome

/-- The entries that stay when the boosts aimed at channel `n` are removed. -/
def Layout.keptBoosts (l : Layout) (n : Nat) (t : Table BoostEntry) : Table BoostEntry := t.filter (l.boostRemains n)

section Kept
variable {l : Layout} {n m : Nat} {t : Table BoostEntry}

theorem boostRemains_iff {e : Nat × BoostEntry} : l.boostRemains n e = true ↔
    ∀ d, l.neighbour n d = some e.1 → ∃ d', d' ≠ d.opposite ∧ e.2.share d' ≠ none := by
  simp only [Layout.boostRemains, List.all_eq_true, List.any_eq_true, Bool.or_eq_true, Bool.and_eq_true,
    decide_eq_true_eq, mem_directions, true_and, forall_const, Option.isSome_iff_ne_none, imp_iff_not_or, ne_eq]

theorem fetch_unboosted_isSome_iff : (Table.fetch (l.unboosted n t) m).isSome = true ↔
    ∃ e, Table.fetch t m = some e ∧ l.boostRemains n (m, e) = true := by
  by_cases hbeside : ∃ d, l.neighbour n d = some m
  · obtain ⟨d, hd⟩ := hbeside
    rw [Layout.fetch_unboosted_of_neighbour t hd]
    cases Table.fetch t m with
    | none => simp
    | some e =>
      have hleft : e.with d.opposite none ≠ BoostEntry.empty ↔ ∃ d', d' ≠ d.opposite ∧ e.share d' ≠ none := by
        rw [Ne, BoostEntry.eq_empty_iff]
        simp only [BoostEntry.share_with, not_forall, ite_eq_left_iff, exists_prop]
      rw [Option.bind_some, BoostEntry.orDeleted_isSome, hleft]
      refine ⟨fun h => ⟨e, rfl, boostRemains_iff.mpr fun d' hd' => ?_⟩, fun ⟨e', he, h⟩ => ?_⟩
      · rw [neighbour_direction_unique hd' hd]
        exact h
      · rw [Option.some.inj he]
        exact boostRemains_iff.mp h d hd
  · rw [Layout.fetch_unboosted_of_not t fun d hd => hbeside ⟨d, hd⟩, Option.isSome_iff_exists]
    exact exists_congr fun e =>
      ⟨fun he => ⟨he, boostRemains_iff.mpr fun d hd => absurd ⟨d, hd⟩ hbeside⟩, fun he => he.1⟩

variable (hc : Table.canonical t = true)
include hc

theorem fetch_keptBoosts_isSome :
    (Table.fetch (l.keptBoosts n t) m).isSome = (Table.fetch (l.unboosted n t) m).isSome := by
  rw [Bool.eq_iff_iff, fetch_unboosted_isSome_iff]
  unfold Layout.keptBoosts
  rw [Table.fetch_filter hc, Option.isSome_iff_exists]
  simp only [Option.filter_eq_some_iff]

theorem length_keptBoosts : (l.keptBoosts n t).length = (l.unboosted n t).length := by
  have hkept : Table.canonical (l.keptBoosts n t) = true := Table.canonical_filter _ hc
  refine le_antisymm (Table.length_le_of_listed hkept fun k hk => ?_)
    (Table.length_le_of_listed (Layout.canonical_unboosted hc) fun k hk => ?_)
  · rwa [fetch_keptBoosts_isSome hc] at hk
  · rwa [fetch_keptBoosts_isSome hc]

/-- A channel is listed once the boosts are gone when an entry of the table stays for it. -/
theorem fetch_unboosted_isSome_iff_mem : (Table.fetch (l.unboosted n t) m).isSome = true ↔
    ∃ e ∈ t, e.1 = m ∧ l.boostRemains n e = true := by
  rw [fetch_unboosted_isSome_iff]
  constructor
  · rintro ⟨e, he, h⟩
    exact ⟨(m, e), Table.mem_of_fetch he, rfl, h⟩
  · rintro ⟨⟨k, e⟩, he, rfl, h⟩
    exact ⟨e, Table.fetch_of_mem hc he, h⟩

end Kept

/-! ## The candidates, direction by direction (R143, R144) -/

/-- The candidate of channel `n` in a direction. -/
def State.candidateAt (s : State) (n : Nat) (d : Direction) : Option (Direction × Nat) :=
  match s.layout.neighbour n d with
  | none => none
  | some m => if s.canDonate m then some (d, m) else none

/-- The directions of the donors of channel `n`. -/
def State.admittedAt (s : State) (n : Nat) : List Direction := (s.donors n).1.map Prod.fst

/-- The directions of the candidates of channel `n` that are refused for room. -/
def State.refusedAt (s : State) (n : Nat) : List Direction :=
  ((s.candidates n).map Prod.fst).filter fun d => decide (d ∉ s.admittedAt n)

section Directions
variable (s : State) (n : Nat)

theorem candidates_eq : s.candidates n = directions.filterMap (s.candidateAt n) := rfl

variable {s n}

theorem candidateAt_eq_some_iff {d : Direction} {c : Direction × Nat} : s.candidateAt n d = some c ↔
    c.1 = d ∧ s.layout.neighbour n d = some c.2 ∧ s.canDonate c.2 = true := by
  obtain ⟨d', m⟩ := c
  unfold State.candidateAt
  cases s.layout.neighbour n d with
  | none => simp
  | some m' =>
    by_cases hdonate : s.canDonate m' = true
    · simp only [hdonate, if_true, Option.some.injEq, Prod.mk.injEq]
      constructor
      · rintro ⟨rfl, rfl⟩; exact ⟨rfl, rfl, hdonate⟩
      · rintro ⟨rfl, rfl, -⟩; exact ⟨rfl, rfl⟩
    · simp only [hdonate, if_false, Option.some.injEq, Bool.false_eq_true]
      exact iff_of_false (by simp) fun ⟨_, heq, hm⟩ => hdonate (heq ▸ hm)

theorem filterMap_candidateAt_sublist (ds : List Direction) : ((ds.filterMap (s.candidateAt n)).map Prod.fst).Sublist ds := by
  induction ds with
  | nil => exact .slnil
  | cons d ds ih =>
    rw [List.filterMap_cons]
    cases hc : s.candidateAt n d with
    | none => exact ih.cons _
    | some c =>
      obtain ⟨hd, -⟩ := candidateAt_eq_some_iff.mp hc
      rw [List.map_cons, hd]
      exact ih.cons_cons _

theorem candidates_directions_nodup : ((s.candidates n).map Prod.fst).Nodup :=
  directions_nodup.sublist (filterMap_candidateAt_sublist directions)

theorem candidates_nodup : (s.candidates n).Nodup := candidates_directions_nodup.of_map _

theorem admittedAt_sublist : (s.admittedAt n).Sublist ((s.candidates n).map Prod.fst) := admission_sublist.map _

theorem mem_candidates_directions {d : Direction} : d ∈ (s.candidates n).map Prod.fst ↔
    ∃ m, s.layout.neighbour n d = some m ∧ s.canDonate m = true := by
  rw [List.mem_map]
  constructor
  · rintro ⟨⟨d', m⟩, hc, rfl⟩
    exact ⟨m, mem_candidates.mp hc⟩
  · rintro ⟨m, hm⟩
    exact ⟨(d, m), mem_candidates.mpr hm, rfl⟩

theorem mem_refusedAt {d : Direction} : d ∈ s.refusedAt n ↔ d ∈ (s.candidates n).map Prod.fst ∧ d ∉ s.admittedAt n := by
  unfold State.refusedAt
  rw [List.mem_filter, decide_eq_true_eq]

theorem mem_admittedAt {d : Direction} {m : Nat} (h : s.layout.neighbour n d = some m) :
    d ∈ s.admittedAt n ↔ (d, m) ∈ (s.donors n).1 := by
  unfold State.admittedAt
  rw [List.mem_map]
  constructor
  · rintro ⟨⟨d', m'⟩, hc, rfl⟩
    rwa [Option.some.inj (h.symm.trans (mem_donors_neighbour hc))]
  · exact fun hc => ⟨(d, m), hc, rfl⟩

/-- Every candidate is admitted or refused. -/
theorem length_refusedAt : (s.refusedAt n).length = (s.donors n).2 := by
  have hparts := List.length_eq_length_filter_add (l := (s.candidates n).map Prod.fst) fun d => decide (d ∈ s.admittedAt n)
  have hadmitted : (((s.candidates n).map Prod.fst).filter fun d => decide (d ∈ s.admittedAt n)).length =
      (s.admittedAt n).length := by
    refine ((List.perm_ext_iff_of_nodup (candidates_directions_nodup.filter _)
      (candidates_directions_nodup.sublist admittedAt_sublist)).mpr fun d => ?_).length_eq
    rw [List.mem_filter, decide_eq_true_eq, and_iff_right_iff_imp]
    exact fun hd => admittedAt_sublist.subset hd
  have hrefused : (((s.candidates n).map Prod.fst).filter fun d => !decide (d ∈ s.admittedAt n)) = s.refusedAt n := by
    unfold State.refusedAt
    simp only [decide_not]
  have hall : (s.donors n).1.length + (s.donors n).2 = (s.candidates n).length := admission_length
  rw [hadmitted, hrefused, List.length_map] at hparts
  have hlength : (s.admittedAt n).length = (s.donors n).1.length := List.length_map ..
  omega

/-- The directions judged before `d`. -/
def Direction.before (d : Direction) : List Direction := directions.takeWhile fun x => decide (x ≠ d)

theorem candidates_split {d : Direction} {m : Nat} (h : (d, m) ∈ s.candidates n) :
    ∃ after, s.candidates n = d.before.filterMap (s.candidateAt n) ++ (d, m) :: after := by
  have hat : s.candidateAt n d = some (d, m) := candidateAt_eq_some_iff.mpr ⟨rfl, mem_candidates.mp h⟩
  have hsplit : ∃ later, directions = d.before ++ d :: later := by cases d <;> exact ⟨_, rfl⟩
  obtain ⟨later, hsplit⟩ := hsplit
  refine ⟨later.filterMap (s.candidateAt n), ?_⟩
  rw [candidates_eq, hsplit, List.filterMap_append, List.filterMap_cons, hat]

/-- The candidates before direction `d` that need a new entry (R144). -/
def State.newBefore (s : State) (n : Nat) (d : Direction) : List Direction :=
  ((d.before.filterMap (s.candidateAt n)).filter (Table.unlisted (s.layout.unboosted n s.plan.boost))).map Prod.fst

theorem newBefore_nodup (d : Direction) : (s.newBefore n d).Nodup := by
  have hbefore : d.before.Nodup := directions_nodup.sublist (List.takeWhile_sublist _)
  exact (hbefore.sublist (filterMap_candidateAt_sublist _)).sublist (List.filter_sublist.map _)

theorem mem_newBefore {d d' : Direction} : d' ∈ s.newBefore n d ↔ d' ∈ d.before ∧
    ∃ m, s.layout.neighbour n d' = some m ∧ s.canDonate m = true ∧
      ¬ (Table.fetch (s.layout.unboosted n s.plan.boost) m).isSome = true := by
  unfold State.newBefore Table.unlisted
  simp only [List.mem_map, List.mem_filter, List.mem_filterMap, Bool.not_eq_true', Bool.not_eq_true]
  constructor
  · rintro ⟨⟨d'', m⟩, ⟨⟨x, hx, hat⟩, hnew⟩, rfl⟩
    obtain ⟨rfl, hm, hdonate⟩ := candidateAt_eq_some_iff.mp hat
    exact ⟨hx, m, hm, hdonate, hnew⟩
  · rintro ⟨hx, m, hm, hdonate, hnew⟩
    exact ⟨(d', m), ⟨⟨d', hx, candidateAt_eq_some_iff.mpr ⟨rfl, hm, hdonate⟩⟩, hnew⟩, rfl⟩

/-- A candidate is admitted when its entry is listed, or when there is room past the new entries before it (R144). -/
theorem mem_admittedAt_iff {d : Direction} {m : Nat} (h : (d, m) ∈ s.candidates n) : d ∈ s.admittedAt n ↔
    (Table.fetch (s.layout.unboosted n s.plan.boost) m).isSome = true ∨
      (s.layout.unboosted n s.plan.boost).length + (s.newBefore n d).length < 2048 := by
  have hcapacity : Config.boostCapacity = 2048 := rfl
  obtain ⟨after, hsplit⟩ := candidates_split h
  have hnodup := candidates_nodup (s := s) (n := n)
  rw [hsplit] at hnodup
  rw [mem_admittedAt (mem_candidates.mp h).1]
  unfold State.donors
  rw [hsplit, mem_admission_iff hnodup, Nat.zero_add, hcapacity, State.newBefore, List.length_map]

end Directions

/-! ## Events of a recompute -/

theorem EventUnit.donorsTaken_counter (u : EventUnit) (k refused : Nat) :
    (u.donorsTaken k refused).counter .boostDrops = u.counter .boostDrops + BitVec.ofNat 16 refused := by
  have hdrops : (if refused = 0 then u else (u.countedTimes .boostDrops refused).raised .boostFull).counter .boostDrops =
      u.counter .boostDrops + BitVec.ofNat 16 refused := by
    split
    · next h => rw [h]; exact (BitVec.add_zero _).symm
    · exact EventUnit.countedTimes_counter_self _ _ _
  unfold EventUnit.donorsTaken
  dsimp only
  split <;> exact hdrops

theorem EventUnit.donorsTaken_pends_boostFull {refused : Nat} (h : refused ≠ 0) (u : EventUnit) (k : Nat) :
    (u.donorsTaken k refused).pends .boostFull = true := by
  unfold EventUnit.donorsTaken
  rw [if_neg h]
  dsimp only
  split
  · rw [EventUnit.pends_raised_of_ne (by decide), EventUnit.pends_raised]
  · exact EventUnit.pends_raised _ _

theorem EventUnit.donorsTaken_pends_uncovered {k : Nat} (h : k = 0) (u : EventUnit) (refused : Nat) :
    (u.donorsTaken k refused).pends .uncovered = true := by
  unfold EventUnit.donorsTaken
  rw [h]
  exact EventUnit.pends_raised _ _

theorem IndexSet.has_discard (t : IndexSet) (k j : Nat) :
    IndexSet.has (Table.discard t k) j = (IndexSet.has t j && decide (j ≠ k)) := by
  unfold IndexSet.has
  rw [Table.fetch_discard]
  by_cases h : j = k <;> simp [h]

theorem has_shortfallAfter (s : State) (n m : Nat) : IndexSet.has (s.shortfallAfter n) m =
    if m = n then decide (s.params.f ≠ 0 ∧ (s.donors n).2 ≠ 0) else IndexSet.has s.plan.shortfall m := by
  unfold State.shortfallAfter
  by_cases hmark : s.params.f ≠ 0 ∧ (s.donors n).2 ≠ 0
  · rw [if_pos hmark, IndexSet.has_add]
    by_cases hm : m = n <;> simp [hm, hmark]
  · rw [if_neg hmark, IndexSet.has_discard]
    by_cases hm : m = n <;> simp [hm, hmark]

theorem canDonate_iff {s : State} {m : Nat} : s.canDonate m = true ↔ s.layout.fitted (slotOfChannel m) = true ∧
    s.sense.modules[slotOfChannel m].state ≠ .dark ∧ s.plan.selectOf m ≠ .off ∧
    (s.capture.held.getLsbD (slotOfChannel m) && s.layout.fitted (slotOfChannel m)) = false := by
  unfold State.canDonate State.isLost State.onHeldSlot State.slotHeld
  simp only [Bool.and_eq_true, Bool.not_eq_true', decide_eq_true_eq, decide_eq_false_iff_not, and_assoc]

end Sys2Proof.Machine
end


section
/-! PROOFS. O28, part by part: the recompute, phases 2 and 3, phase 1. -/

namespace Sys2Proof.Machine

/-! ## The recompute (R143 to R145) -/

section Recompute
variable {s : State} {n : Nat}

/-- What O28 says of how the candidates are judged. -/
theorem candidates_judged (hc : Table.canonical s.plan.boost = true) {d : Direction}
    (h : d ∈ (s.candidates n).map Prod.fst) (lists : Direction → Prop)
    (hlists : ∀ d m, s.layout.neighbour n d = some m →
      (lists d ↔ (Table.fetch (s.layout.unboosted n s.plan.boost) m).isSome = true)) :
    (d ∈ s.admittedAt n ↔ lists d ∨ (s.layout.keptBoosts n s.plan.boost).length + (s.newBefore n d).length < 2048) ∧
    (d ∈ s.refusedAt n ↔ ¬ lists d ∧ 2048 ≤ (s.layout.keptBoosts n s.plan.boost).length + (s.newBefore n d).length) := by
  obtain ⟨m, hm⟩ := mem_candidates_directions.mp h
  have hadmitted := mem_admittedAt_iff (mem_candidates.mpr hm)
  rw [← hlists d m hm.1, ← length_keptBoosts hc] at hadmitted
  refine ⟨hadmitted, ?_⟩
  rw [mem_refusedAt, and_iff_right h, hadmitted, not_or, Nat.not_lt]

/-- What O28 says of the boosts and marks that a recompute leaves. -/
theorem recompute_effect (s : State) (n : Nat) :
    let f := s.params.f
    let k := (s.admittedAt n).length
    let t := recompute n s
    (∀ (d : Direction) (m : Nat), s.layout.neighbour n d = some m →
      (t.plan.entryOf m).bind (fun e => e.share d.opposite) =
        if d ∈ s.admittedAt n ∧ 1 ≤ f * 256 / (100 * k) then some (f * 256 / (100 * k)) else none) ∧
    (∀ (m : Nat) (d : Direction), s.layout.neighbour n d.opposite ≠ some m →
      (t.plan.entryOf m).bind (fun e => e.share d) = (s.plan.entryOf m).bind (fun e => e.share d)) ∧
    (f ≠ 0 → t.events.counter .boostDrops = s.events.counter .boostDrops + BitVec.ofNat 16 (s.refusedAt n).length ∧
      (s.refusedAt n ≠ [] → t.events.pends .boostFull = true) ∧ (k = 0 → t.events.pends .uncovered = true)) ∧
    (f = 0 → t.events = s.events) ∧
    IndexSet.has t.plan.shortfall n = (decide (f ≠ 0) && decide (s.refusedAt n ≠ [])) ∧
    (∀ m, m ≠ n → IndexSet.has t.plan.shortfall m = IndexSet.has s.plan.shortfall m) ∧
    (∀ m, s.plan.entryOf m ≠ some BoostEntry.empty → t.plan.entryOf m ≠ some BoostEntry.empty) ∧
    t.plan = { s.plan with boost := t.plan.boost, shortfall := t.plan.shortfall } ∧
    OnlyChanges [.plan, .events] s t := by
  intro f k t
  have hk : (s.donors n).1.length = k := (List.length_map ..).symm
  have hshare : shareOf f k = f * 256 / (100 * k) := rfl
  have hrefused : s.refusedAt n ≠ [] ↔ (s.donors n).2 ≠ 0 := by
    rw [← length_refusedAt, Ne, Ne, List.length_eq_zero_iff]
  have hentry : ∀ m d, (t.plan.entryOf m).bind (fun e => e.share d) = Table.boostShare (s.boostAfter n) m d := fun m d => by
    unfold Table.boostShare
    rw [← recompute_boost]
    rfl
  have hevents : t.events = s.eventsAfter n := recompute_events n s
  refine ⟨fun d m hm => ?_, fun m d hm => ?_, fun hf => ?_, fun hf => ?_, ?_, fun m hm => ?_, fun m hm => ?_, ?_,
    (recompute_acts n s).only⟩
  · rw [hentry, boostShare_boostAfter, Direction.opposite_opposite, if_pos hm, hk, hshare]
    exact if_congr (and_congr_left' (mem_admittedAt hm).symm) rfl rfl
  · rw [hentry, boostShare_boostAfter, if_neg hm]
    rfl
  · have htaken : t.events = s.events.donorsTaken k (s.donors n).2 := by
      rw [hevents, State.eventsAfter, if_neg hf, hk]
    rw [htaken, length_refusedAt, hrefused]
    exact ⟨EventUnit.donorsTaken_counter _ _ _, fun h => EventUnit.donorsTaken_pends_boostFull h _ _,
      fun h => EventUnit.donorsTaken_pends_uncovered h _ _⟩
  · rw [hevents, State.eventsAfter, if_pos hf]
  · rw [recompute_shortfall, has_shortfallAfter, if_pos rfl, ← Bool.decide_and]
    exact decide_eq_decide.mpr (and_congr_right' hrefused.symm)
  · rw [recompute_shortfall, has_shortfallAfter, if_neg hm]
  · have hboost : t.plan.entryOf m = Table.fetch (s.boostAfter n) m := congrArg (Table.fetch · m) (recompute_boost n s)
    rw [hboost]
    exact fetch_boostAfter_ne_empty s n hm
  · show (recompute n s).plan = { s.plan with boost := (recompute n s).plan.boost, shortfall := (recompute n s).plan.shortfall }
    rw [recompute_eq]
    rfl

end Recompute

/-! ## Phases 2 and 3 (R141, R142) -/

/-- Whether a recompute of the channel is made in phases 2 and 3. -/
def State.recomputes (s : State) (n : Nat) : Bool := s.isLost n && !s.recomputeFrozen n

/-- Whether a recompute of the channel is deferred in phases 2 and 3 (R150). -/
def State.defers (s : State) (n : Nat) : Bool := s.isLost n && s.recomputeFrozen n

/-- The recompute of each channel of a list, in turn. -/
def recomputeAll (l : List Nat) (s : State) : State := l.foldl (fun v n => recompute n v) s

/-- The state with other deferred marks. -/
def State.withDeferred (s : State) (x : IndexSet) : State := s.setPlan { s.plan with deferred := x }

theorem recompute_withDeferred (n : Nat) (x : IndexSet) (s : State) :
    recompute n (s.withDeferred x) = (recompute n s).withDeferred x := by
  rw [recompute_eq, recompute_eq]
  rfl

theorem recomputeAll_only (l : List Nat) (s : State) : OnlyChanges [.plan, .events] s (recomputeAll l s) :=
  (Acts.foldl (f := fun v n => recompute n v) (fun v n => recompute_acts n v) l s).only

theorem recomputeAll_select (l : List Nat) (s : State) : (recomputeAll l s).plan.select = s.plan.select := by
  induction l generalizing s with
  | nil => rfl
  | cons n l ih => exact (ih (recompute n s)).trans (recompute_select n s)

theorem recomputeAll_deferred (l : List Nat) (s : State) : (recomputeAll l s).plan.deferred = s.plan.deferred := by
  induction l generalizing s with
  | nil => rfl
  | cons n l ih => exact (ih (recompute n s)).trans (recompute_deferred n s)

theorem canonical_recomputeAll_shortfall {s : State} (h : Table.canonical s.plan.shortfall = true) (l : List Nat) :
    Table.canonical (recomputeAll l s).plan.shortfall = true := by
  induction l generalizing s with
  | nil => exact h
  | cons n l ih =>
    refine ih (s := recompute n s) ?_
    rw [recompute_shortfall]
    unfold State.shortfallAfter
    split
    · exact Table.canonical_store n () h
    · exact Table.canonical_discard n h

section Frozen
variable {s t : State}

theorem recomputeFrozen_congr (hlayout : t.layout = s.layout) (hcapture : t.capture = s.capture) (n : Nat) :
    t.recomputeFrozen n = s.recomputeFrozen n := by
  unfold State.recomputeFrozen State.besideHeldSlot State.onHeldSlot State.slotHeld
  rw [hlayout, hcapture]

theorem recomputeFrozen_iff {n : Nat} : s.recomputeFrozen n = true ↔
    (s.capture.held.getLsbD (slotOfChannel n) && s.layout.fitted (slotOfChannel n)) = true ∨
      ∃ m ∈ s.layout.neighbours n,
        (s.capture.held.getLsbD (slotOfChannel m) && s.layout.fitted (slotOfChannel m)) = true := by
  unfold State.recomputeFrozen State.besideHeldSlot
  rw [Bool.or_eq_true, List.any_eq_true]
  rfl

theorem isLost_iff {n : Nat} : s.isLost n = true ↔ s.plan.selectOf n = .off := decide_eq_true_iff

end Frozen

/-- A phase takes the recomputes that are not frozen, in turn, and defers the frozen ones. -/
theorem recomputes_eq (l : List Nat) (s : State) : l.foldl recomputeOrDefer s =
    (recomputeAll (l.filter s.recomputes) s).withDeferred (IndexSet.addAll s.plan.deferred (l.filter s.defers)) := by
  induction l using List.reverseRecOn with
  | nil => rfl
  | append_singleton l n ih =>
    set v := recomputeAll (l.filter s.recomputes) s with hv
    have honly : OnlyChanges [.plan, .events] s v := recomputeAll_only _ s
    have hlost : (v.withDeferred (IndexSet.addAll s.plan.deferred (l.filter s.defers))).isLost n = s.isLost n :=
      congrArg (fun x => decide (x = Select.off))
        (selectOf_of_select (p := v.plan) (q := s.plan) (recomputeAll_select (l.filter s.recomputes) s) n)
    have hfrozen : (v.withDeferred (IndexSet.addAll s.plan.deferred (l.filter s.defers))).recomputeFrozen n =
        s.recomputeFrozen n := recomputeFrozen_congr honly.layout honly.capture n
    rw [List.foldl_append, ih, List.foldl_cons, List.foldl_nil, List.filter_append, List.filter_append]
    unfold recomputeOrDefer
    rw [hlost, hfrozen]
    by_cases hl : s.isLost n = true
    · by_cases hf : s.recomputeFrozen n = true
      · have hno : s.recomputes n = false := by simp [State.recomputes, hf]
        have hyes : s.defers n = true := by simp [State.defers, hl, hf]
        simp only [hl, hf, Bool.not_true, Bool.false_eq_true, if_false, if_true, List.filter_cons, hno, hyes,
          List.filter_nil, List.append_nil]
        unfold setDeferred State.withDeferred IndexSet.addAll
        rw [List.foldl_append]
        rfl
      · have hyes : s.recomputes n = true := by simp [State.recomputes, hl, hf]
        have hno : s.defers n = false := by simp [State.defers, hf]
        simp only [hl, hf, Bool.not_true, Bool.false_eq_true, if_false, List.filter_cons, hno, hyes, if_true,
          List.filter_nil, List.append_nil]
        rw [recompute_withDeferred]
        unfold recomputeAll
        rw [List.foldl_append]
        rfl
    · have hno : s.recomputes n = false := by simp [State.recomputes, hl]
      have hno' : s.defers n = false := by simp [State.defers, hl]
      simp only [hl, Bool.not_false, if_true, List.filter_cons, hno, hno', List.filter_nil, List.append_nil,
        Bool.false_eq_true, if_false]
      rfl

/-- Two ascending lists with the same members are the same list. -/
theorem eq_of_ascending {a b : List Nat} (ha : a.Pairwise (· < ·)) (hb : b.Pairwise (· < ·)) (h : ∀ n, n ∈ a ↔ n ∈ b) :
    a = b := by
  have hnodup : ∀ {l : List Nat}, l.Pairwise (· < ·) → l.Nodup := fun hl => hl.imp fun hlt => hlt.ne
  exact ((List.perm_ext_iff_of_nodup (hnodup ha) (hnodup hb)).mpr h).eq_of_pairwise
    (fun _ _ _ _ hab hba => absurd hab (Nat.lt_asymm hba)) ha hb

theorem mem_recomputes {s : State} {l : List Nat} {n : Nat} : n ∈ l.filter s.recomputes ↔
    n ∈ l ∧ s.plan.selectOf n = .off ∧ ¬ s.recomputeFrozen n = true := by
  simp only [State.recomputes, List.mem_filter, Bool.and_eq_true, Bool.not_eq_true', Bool.not_eq_true, isLost_iff]

theorem mem_defers {s : State} {l : List Nat} {n : Nat} : n ∈ l.filter s.defers ↔
    n ∈ l ∧ s.plan.selectOf n = .off ∧ s.recomputeFrozen n = true := by
  simp only [State.defers, List.mem_filter, Bool.and_eq_true, isLost_iff]

/-- The phases of a round that derives nothing: the recomputes of phase 2, then those of phase 3, with the frozen ones of
both deferred. -/
theorem roundEnd_of_none {s : State} {wanted phase2 phase3 : List Nat} (hc : Table.canonical s.plan.shortfall = true)
    (hphase2 : phase2.Pairwise (· < ·))
    (hmem2 : ∀ n, n ∈ phase2 ↔ n ∈ wanted ∧ s.plan.selectOf n = .off ∧ ¬ s.recomputeFrozen n = true)
    (hphase3 : phase3.Pairwise (· < ·))
    (hmem3 : ∀ n, n ∈ phase3 ↔ IndexSet.has (recomputeAll phase2 s).plan.shortfall n = true ∧ s.plan.selectOf n = .off ∧
      ¬ s.recomputeFrozen n = true) :
    ∃ x, roundEnd [] wanted s = (recomputeAll phase3 (recomputeAll phase2 s)).withDeferred x ∧
      ∀ n, IndexSet.has x n = true ↔ IndexSet.has s.plan.deferred n = true ∨
        (s.plan.selectOf n = .off ∧ s.recomputeFrozen n = true ∧
          (n ∈ wanted ∨ IndexSet.has (recomputeAll phase2 s).plan.shortfall n = true)) := by
  set u := recomputeAll phase2 s with hu
  have honly : OnlyChanges [.plan, .events] s u := recomputeAll_only phase2 s
  have hselect : ∀ n, u.plan.selectOf n = s.plan.selectOf n := fun n =>
    selectOf_of_select (recomputeAll_select phase2 s) n
  set keys := Table.keys (IndexSet.addAll [] wanted) with hkeys
  have hwanted : ∀ n, n ∈ keys ↔ n ∈ wanted := fun n => by
    rw [hkeys, IndexSet.mem_keys_iff n, IndexSet.has_addAll, IndexSet.has_nil, Bool.or_false, decide_eq_true_eq]
  have hfirst : keys.filter s.recomputes = phase2 :=
    eq_of_ascending ((Table.keys_pairwise (IndexSet.canonical_addAll _ rfl)).filter _) hphase2 fun n => by
      rw [mem_recomputes, hwanted, hmem2]
  set x2 := IndexSet.addAll s.plan.deferred (keys.filter s.defers) with hx2
  have hframe : ∀ n, (u.withDeferred x2).plan.selectOf n = s.plan.selectOf n ∧
      (u.withDeferred x2).recomputeFrozen n = s.recomputeFrozen n := fun n =>
    ⟨hselect n, recomputeFrozen_congr honly.layout honly.capture n⟩
  set short := Table.keys u.plan.shortfall with hshort
  have hmark : ∀ n, n ∈ short ↔ IndexSet.has u.plan.shortfall n = true := fun n => IndexSet.mem_keys_iff n _
  have hsecond : short.filter (u.withDeferred x2).recomputes = phase3 :=
    eq_of_ascending ((Table.keys_pairwise (canonical_recomputeAll_shortfall hc phase2)).filter _) hphase3 fun n => by
      rw [mem_recomputes, hmark, (hframe n).1, (hframe n).2, hmem3]
  have hthird : ∀ (l : List Nat) (v : State) (x : IndexSet),
      recomputeAll l (v.withDeferred x) = (recomputeAll l v).withDeferred x := fun l => by
    induction l with
    | nil => exact fun _ _ => rfl
    | cons n l ih =>
      intro v x
      show recomputeAll l (recompute n (v.withDeferred x)) = _
      rw [recompute_withDeferred, ih]
      rfl
  refine ⟨IndexSet.addAll x2 (short.filter (u.withDeferred x2).defers), ?_, fun n => ?_⟩
  · show phaseThree (keys.foldl recomputeOrDefer s) = _
    rw [recomputes_eq, hfirst]
    show (short.foldl recomputeOrDefer (u.withDeferred x2)) = _
    rw [recomputes_eq, hsecond, hthird]
    rfl
  · rw [IndexSet.has_addAll, hx2, IndexSet.has_addAll, Bool.or_eq_true, Bool.or_eq_true, decide_eq_true_eq,
      decide_eq_true_eq, mem_defers, mem_defers, hmark, hwanted, (hframe n).1, (hframe n).2]
    tauto

/-- What O28 says of phases 2 and 3. -/
theorem takeRound_phases {s : State} {wanted phase2 phase3 : List Nat} (hc : Table.canonical s.plan.shortfall = true)
    (hphase2 : phase2.Pairwise (· < ·))
    (hmem2 : ∀ n, n ∈ phase2 ↔ n ∈ wanted ∧ s.plan.selectOf n = .off ∧ ¬ s.recomputeFrozen n = true)
    (hphase3 : phase3.Pairwise (· < ·))
    (hmem3 : ∀ n, n ∈ phase3 ↔ IndexSet.has (recomputeAll phase2 s).plan.shortfall n = true ∧ s.plan.selectOf n = .off ∧
      ¬ s.recomputeFrozen n = true) :
    let v := recomputeAll phase3 (recomputeAll phase2 s)
    let t := takeRound [] wanted s
    t.plan = { v.plan with edited := t.plan.edited, deferred := t.plan.deferred } ∧ t.events = v.events ∧
      (s.capture.held = 0 → t.plan.deferred = s.plan.deferred) ∧
      (∀ n, IndexSet.has t.plan.deferred n = true ↔ IndexSet.has s.plan.deferred n = true ∨
        (s.plan.selectOf n = .off ∧ s.recomputeFrozen n = true ∧
          (n ∈ wanted ∨ IndexSet.has (recomputeAll phase2 s).plan.shortfall n = true))) ∧
      ∀ n, IndexSet.has t.plan.edited n =
        (IndexSet.has s.plan.edited n || decide (v.plan.entryOf n ≠ s.plan.entryOf n)) := by
  intro v t
  obtain ⟨x, hend, hdeferred⟩ := roundEnd_of_none hc hphase2 hmem2 hphase3 hmem3
  have ht : t = markEdited s.plan (v.withDeferred x) := by rw [← hend]; rfl
  have hentry : ∀ n, t.plan.entryOf n = v.plan.entryOf n := fun n => by rw [ht]; rfl
  have hmarks : t.plan.deferred = x := by rw [ht]; rfl
  refine ⟨by rw [ht]; rfl, by rw [ht]; rfl, fun hheld => takeRound_deferred hheld _ _, fun n => by rw [hmarks, hdeferred],
    fun n => ?_⟩
  have hselect : t.plan.selectOf n = s.plan.selectOf n := takeRound_selectOf_of_not_mem s [] wanted List.not_mem_nil
  have hedited := takeRound_has_edited [] wanted s n
  rw [hselect, hentry] at hedited
  rw [hedited]
  simp only [ne_eq, not_true_eq_false, false_or]

/-! ## Phase 1 (R140) -/

section Derive
variable {s : State} {n : Nat}

theorem selectFrozen_iff {want : Select} : s.selectFrozen n want = true ↔
    (s.capture.held.getLsbD (slotOfChannel n) && s.layout.fitted (slotOfChannel n)) = true ∨
      (want ≠ s.plan.selectOf n ∧ (want = .off ∨ s.plan.selectOf n = .off) ∧
        ∃ m ∈ s.layout.neighbours n,
          (s.capture.held.getLsbD (slotOfChannel m) && s.layout.fitted (slotOfChannel m)) = true) := by
  unfold State.selectFrozen State.besideHeldSlot
  rw [Bool.or_eq_true, Bool.and_eq_true, Bool.and_eq_true, decide_eq_true_eq, decide_eq_true_eq, List.any_eq_true, and_assoc]
  rfl

/-- A round goes on from its first derived channel as the round of the rest, with the recompute set as that channel left
it. -/
theorem takeRound_goesOn {rest wanted joined wanted' : List Nat} {u : State}
    (hone : deriveOne (s, IndexSet.addAll [] wanted) n = (u, IndexSet.addAll (IndexSet.addAll [] wanted) joined))
    (hmem : ∀ m, m ∈ wanted' ↔ m ∈ wanted ∨ m ∈ joined) :
    let t := takeRound (n :: rest) wanted s
    t.plan = { (takeRound rest wanted' u).plan with edited := t.plan.edited } ∧
      t.events = (takeRound rest wanted' u).events := by
  have hset : IndexSet.addAll (IndexSet.addAll [] wanted) joined = IndexSet.addAll [] wanted' := by
    have hsame : IndexSet.addAll [] wanted' = IndexSet.addAll [] (wanted ++ joined) :=
      IndexSet.addAll_nil_congr fun m => by rw [hmem, List.mem_append]
    rw [hsame]
    exact (List.foldl_append ..).symm
  have hend : roundEnd (n :: rest) wanted s = roundEnd rest wanted' u := by
    unfold roundEnd
    rw [List.foldl_cons, hone, hset]
  intro t
  have ht : t = markEdited s.plan (roundEnd rest wanted' u) := by rw [← hend]; rfl
  rw [ht]
  exact ⟨rfl, rfl⟩

theorem mem_lostNeighbours {m : Nat} : m ∈ s.lostNeighbours n ↔ m ∈ s.layout.neighbours n ∧ s.plan.selectOf m = .off := by
  unfold State.lostNeighbours
  rw [List.mem_filter, isLost_iff]

end Derive

/-- Settles O28: the recompute by what it leaves of each boost, the phases by the moves they take in turn, and phase 1 by the
branch of `deriveOne` that takes the channel. -/
theorem recomputePlacesShares : Obligations.RecomputePlacesShares := by
  refine ⟨?recompute, ?phases, ?derive⟩
  case recompute =>
    intro s n hc donor candidate remains lists
    have hremains : ∀ e, s.layout.boostRemains n e = true ↔ remains e := fun e => boostRemains_iff
    have hcandidate : ∀ d, d ∈ (s.candidates n).map Prod.fst ↔ candidate d := fun d => by
      rw [mem_candidates_directions]
      simp only [canDonate_iff]
      rfl
    have hlists : ∀ d m, s.layout.neighbour n d = some m →
        (lists d ↔ (Table.fetch (s.layout.unboosted n s.plan.boost) m).isSome = true) := fun d m hm => by
      rw [fetch_unboosted_isSome_iff_mem hc]
      simp only [lists, ← hremains, hm, Option.some.injEq, eq_comm]
    refine ⟨s.layout.keptBoosts n s.plan.boost, s.admittedAt n, s.refusedAt n, List.filter_sublist, fun e he => ?_,
      candidates_directions_nodup.sublist admittedAt_sublist, candidates_directions_nodup.filter _, fun d => ?_,
      fun d hd => ⟨s.newBefore n d, newBefore_nodup d, fun d' => ?_,
        candidates_judged hc ((hcandidate d).mpr hd) lists hlists⟩, recompute_effect s n⟩
    · unfold Layout.keptBoosts
      rw [List.mem_filter, and_iff_right he, hremains]
    · rw [← hcandidate, mem_refusedAt]
      have hsub : d ∈ s.admittedAt n → d ∈ (s.candidates n).map Prod.fst := fun h => admittedAt_sublist.subset h
      tauto
    · rw [mem_newBefore, ← hcandidate, mem_candidates_directions]
      refine and_congr_right' ⟨fun ⟨m, hm, hdonate, hnew⟩ => ⟨⟨m, hm, hdonate⟩, mt (hlists d' m hm).mp hnew⟩,
        fun ⟨⟨m, hm, hdonate⟩, hnew⟩ => ⟨m, hm, hdonate, mt (hlists d' m hm).mpr hnew⟩⟩
  case phases =>
    intro s wanted phase2 phase3 hc onHeld frozen u v t hphase2 hmem2 hphase3 hmem3
    have hfrozen : ∀ n, s.recomputeFrozen n = true ↔ frozen n := fun n => recomputeFrozen_iff
    simp only [← hfrozen] at hmem2 hmem3 ⊢
    exact takeRound_phases hc hphase2 hmem2 hphase3 hmem3
  case derive =>
    intro s n rest wanted _ want was onHeld frozen t goesOn
    have hfrozen : s.selectFrozen n want = true ↔ frozen := selectFrozen_iff
    obtain ⟨u, hu⟩ : ∃ u, (deriveOne (s, []) n).1 = u := ⟨_, rfl⟩
    refine ⟨takeRound_has_edited _ _ s, u, hu ▸ (deriveOne_acts (s, []) n).only, ?_⟩
    intro beside
    have hgoes : ∀ {u : State} {joins : Nat → Prop} (joined : List Nat), (∀ m, m ∈ joined ↔ joins m) →
        deriveOne (s, IndexSet.addAll [] wanted) n = (u, IndexSet.addAll (IndexSet.addAll [] wanted) joined) →
        goesOn u joins := fun joined hjoins hone wanted' hmem =>
      takeRound_goesOn hone fun m => by rw [hmem, hjoins]
    refine ⟨fun h => ?frozen, fun h => ?free⟩
    case frozen =>
      have hyes := hfrozen.mpr h
      have hone : ∀ set, deriveOne (s, set) n = (setDeferred n s, set) := fun set => deriveOne_of_frozen hyes
      obtain rfl : setDeferred n s = u := (congrArg Prod.fst (hone [])).symm.trans hu
      exact ⟨rfl, rfl, fun m => (IndexSet.has_add _ _ _).trans (Bool.or_comm _ _),
        hgoes [] (fun _ => by simp) (hone _)⟩
    case free =>
      have hfree : s.selectFrozen n want = false := Bool.eq_false_iff.mpr (mt hfrozen.mp h)
      by_cases hsame : want = was
      · have hone : ∀ set, deriveOne (s, set) n = (s, set) := fun set => deriveOne_of_same hfree hsame
        obtain rfl : s = u := (congrArg Prod.fst (hone [])).symm.trans hu
        refine ⟨rfl, fun m => ?_, fun _ => ⟨rfl, hgoes [] (fun _ => by simp) (hone _)⟩, fun hne => absurd hsame hne,
          fun hne => absurd hsame hne, fun hne => absurd hsame hne⟩
        split
        · next hm => rw [hm, hsame]
        · rfl
      · by_cases hoff : want = .off
        · have hone : ∀ set, deriveOne (s, set) n =
              (loseChannel n s, IndexSet.addAll set (n :: (loseChannel n s).lostNeighbours n)) := fun set =>
            deriveOne_of_lost hfree hsame hoff
          obtain rfl : loseChannel n s = u := (congrArg Prod.fst (hone [])).symm.trans hu
          refine ⟨rfl, fun m => ?_, fun heq => absurd heq hsame, fun _ _ => ⟨rfl, rfl, fun m => ?_, ?_⟩,
            fun _ hwas => absurd (hoff.trans hwas.symm) hsame, fun _ hon => absurd hoff hon⟩
          · rw [hoff]
            exact (selectOf_of_select (loseChannel_select n s) m).trans (setPendingSelect_selectOf n m .off s)
          · exact Table.fetch_assign s.plan.boost n m none
          · exact hgoes (n :: (loseChannel n s).lostNeighbours n)
              (fun m => List.mem_cons.trans (or_congr_right mem_lostNeighbours)) (hone _)
        · by_cases hwas : was = .off
          · have hone : ∀ set, deriveOne (s, set) n =
                (regainChannel n want s, IndexSet.addAll set ((regainChannel n want s).lostNeighbours n)) := fun set =>
              deriveOne_of_regained hfree hsame hwas
            have heq := regainChannel_eq n want s
            obtain rfl : regainChannel n want s = u := (congrArg Prod.fst (hone [])).symm.trans hu
            refine ⟨by rw [heq]; rfl, fun m => ?_, fun heq => absurd heq hsame, fun _ hon => absurd hon hoff,
              fun _ _ => ⟨by rw [heq]; rfl, fun m => ?_, fun m d => ?_, fun m hm => ?_, ?_⟩, fun _ _ hon => absurd hwas hon⟩
            · exact (selectOf_of_select (regainChannel_select n want s) m).trans (setPendingSelect_selectOf n m want s)
            · rw [heq]
              exact IndexSet.has_discard _ _ _
            · rw [heq]
              exact Layout.boostShare_unboosted s.plan.boost d
            · rw [heq]
              exact Layout.fetch_unboosted_ne_empty hm
            · have hlayout : (regainChannel n want s).layout = s.layout := by rw [heq]; rfl
              exact hgoes ((regainChannel n want s).lostNeighbours n) (fun m => by rw [mem_lostNeighbours, hlayout]) (hone _)
          · have hone : ∀ set, deriveOne (s, set) n = (setPendingSelect n want s, set) := fun set =>
              deriveOne_of_swapped hfree hsame hoff hwas
            obtain rfl : setPendingSelect n want s = u := (congrArg Prod.fst (hone [])).symm.trans hu
            exact ⟨rfl, fun m => setPendingSelect_selectOf n m want s, fun heq => absurd heq hsame,
              fun _ hon => absurd hon hoff, fun _ hon => absurd hon hwas,
              fun _ _ _ => ⟨rfl, rfl, rfl, hgoes [] (fun _ => by simp) (hone _)⟩⟩

end Sys2Proof.Machine
end


section
/-! PROOFS. The choice of a gap's tests, exactly: the probes and the due tests (R79 to R82). -/

namespace Sys2Proof.Machine

/-! ## Entries and searches -/

/-- A die's entry as it joins the gap list (R79 step 1). -/
def GapEntry.fresh (p : Purpose) (serves : Bool) (d : Nat) : GapEntry :=
  { die := d, purpose := p, outstanding := true, serves := serves }

/-- The place of a die in an order that begins at `start` and wraps past die 110,591. -/
def rankFrom (start d : Nat) : Nat := if start ≤ d then d else d + 110592

theorem presentDie_lt {l : Layout} {d : Nat} (h : l.presentDie d = true) : d < 110592 := by
  have hcount : Config.channelCount = 55296 := rfl
  simp only [Layout.presentDie, Layout.presentChannel, Bool.and_eq_true] at h
  obtain ⟨⟨⟨hlt, -⟩, -⟩, -⟩ := h
  have hchannel : d / 2 < Config.channelCount := of_decide_eq_true hlt
  omega

/-- A search from a cursor on that wraps within a slot finds the die of least rank (R81). -/
theorem probeDie_spec {s : State} {i : Fin 8} {start : Nat} (hstart : (s.sense.modules[i].probeCursor).getD 0 = start) :
    (∀ d, s.probeDie i = some d → s.probeable i d = true ∧
      ∀ e, s.probeable i e = true → e ≠ d → rankFrom start d < rankFrom start e) ∧
    (s.probeDie i = none → ∀ d, s.probeable i d = false) := by
  have hbound : ∀ d, s.probeable i d = true → d < 110592 := fun d hd => by
    simp only [State.probeable, Bool.and_eq_true] at hd
    exact presentDie_lt hd.1.1
  have hcount : Config.dieCount = 110592 := rfl
  unfold State.probeDie
  dsimp only
  rw [hstart, hcount]
  cases hlate : firstFrom (s.probeable i) (110592 - start) start with
  | some x =>
    obtain ⟨hx, hle, -, hbefore⟩ := firstFrom_some hlate
    refine ⟨fun d hd => ?_, fun h => absurd h (by simp)⟩
    obtain rfl := Option.some.inj hd
    refine ⟨hx, fun e he hne => ?_⟩
    have hlow : ¬ (start ≤ e ∧ e < x) := fun h => Bool.noConfusion ((hbefore e h.1 h.2).symm.trans he)
    have := hbound x hx
    unfold rankFrom
    split <;> split <;> omega
  | none =>
    have hnolate := firstFrom_none hlate
    have hearly : ∀ e, s.probeable i e = true → e < start := fun e he => by
      by_contra hge
      have := hbound e he
      exact Bool.noConfusion ((hnolate e (by omega) (by omega)).symm.trans he)
    refine ⟨fun d hd => ?_, fun hnone d => ?_⟩
    · obtain ⟨hx, -, -, hbefore⟩ := firstFrom_some hd
      refine ⟨hx, fun e he hne => ?_⟩
      have hlow : ¬ e < d := fun h => Bool.noConfusion ((hbefore e (Nat.zero_le e) h).symm.trans he)
      have hd' := hearly d hx
      have he' := hearly e he
      unfold rankFrom
      rw [if_neg (by omega), if_neg (by omega)]
      omega
    · by_contra hd
      have he := hearly d (by simpa using hd)
      exact hd (firstFrom_none hnone d (Nat.zero_le d) (by omega))

/-! ## Step 1: probes (R81) -/

/-- The probe a slot would get: a DARK module's die, if there is one. -/
def State.probePick (s : State) (i : Fin 8) : Option (Fin 8 × Nat) :=
  if s.moduleState i = .dark then (s.probeDie i).map (i, ·) else none

/-- The probes that a list of slots gets, each with its die: as many as the budget allows. -/
def State.probePicks (s : State) (l : List (Fin 8)) : List (Fin 8 × Nat) := (l.filterMap s.probePick).take s.budgetLeft

theorem probePick_eq_some_iff {s : State} {i : Fin 8} {x : Fin 8 × Nat} : s.probePick i = some x ↔
    x.1 = i ∧ s.moduleState i = .dark ∧ s.probeDie i = some x.2 := by
  obtain ⟨j, d⟩ := x
  unfold State.probePick
  by_cases hdark : s.moduleState i = .dark
  · rw [if_pos hdark, Option.map_eq_some_iff]
    simp only [Prod.mk.injEq, hdark, true_and]
    constructor
    · rintro ⟨e, he, rfl, rfl⟩; exact ⟨rfl, he⟩
    · rintro ⟨rfl, he⟩; exact ⟨d, he, rfl, rfl⟩
  · simp [hdark]

theorem filterMap_probePick_sublist (s : State) (l : List (Fin 8)) : ((l.filterMap s.probePick).map Prod.fst).Sublist l := by
  induction l with
  | nil => exact .slnil
  | cons i l ih =>
    rw [List.filterMap_cons]
    cases hpick : s.probePick i with
    | none => exact ih.cons _
    | some x =>
      rw [List.map_cons, (probePick_eq_some_iff.mp hpick).1]
      exact ih.cons_cons _

/-- A slot's pick rests on its own module, the layout and the records. -/
theorem probePick_congr {s t : State} {i : Fin 8} (hmodule : t.sense.modules[i] = s.sense.modules[i])
    (hlayout : t.layout = s.layout) (hmap : t.map = s.map) : t.probePick i = s.probePick i := by
  have hprobeable : t.probeable i = s.probeable i := by
    unfold State.probeable State.diePinned State.recordState
    rw [hlayout, hmap]
  unfold State.probePick State.probeDie State.moduleState
  rw [hmodule, hprobeable]

/-- What the probes `picks` leave of `s`: their entries, the modules' cursors and the probe turn. -/
structure Probed (s : State) (picks : List (Fin 8 × Nat)) (t : State) : Prop where
  only : t = s.setSense t.sense
  sense : t.sense = { s.sense with
    gap := s.sense.gap ++ picks.map fun x => .fresh .probe false x.2
    modules := t.sense.modules
    probeTurn := (picks.getLast?.map Prod.fst).or s.sense.probeTurn }
  picked : ∀ x ∈ picks, t.sense.modules[x.1] = { s.sense.modules[x.1] with probeCursor := dieAfter x.2 }
  other : ∀ i, i ∉ picks.map Prod.fst → t.sense.modules[i] = s.sense.modules[i]

theorem probed_nil (s : State) : Probed s [] s where
  only := rfl
  sense := by simp
  picked _ h := absurd h List.not_mem_nil
  other _ _ := rfl

section ProbeSlot
variable {s : State} {i : Fin 8} {d : Nat}

theorem probeSlot_of_spent (h : s.budgetLeft = 0) : probeSlot s i = s :=
  if_neg fun hturn => absurd h hturn.2.ne'

theorem probeSlot_of_none (h : s.probePick i = none) : probeSlot s i = s := by
  unfold probeSlot
  split
  · next hturn =>
    unfold State.probePick at h
    rw [if_pos hturn.1, Option.map_eq_none_iff] at h
    rw [h]
  · rfl

theorem probeSlot_of_some (h : s.probePick i = some (i, d)) (hbudget : s.budgetLeft ≠ 0) : probeSlot s i =
    s.setSense { s.sense with
      gap := s.sense.gap ++ [.fresh .probe false d]
      modules := s.sense.modules.set i { s.sense.modules[i] with probeCursor := dieAfter d }
      probeTurn := some i } := by
  obtain ⟨-, hdark, hdie⟩ := probePick_eq_some_iff.mp h
  unfold probeSlot
  rw [if_pos ⟨hdark, Nat.pos_of_ne_zero hbudget⟩, hdie]
  rfl

end ProbeSlot

/-- One more probe. -/
theorem Probed.another {s t : State} {picks : List (Fin 8 × Nat)} (h : Probed s picks t) {i : Fin 8} {d : Nat}
    (hnew : i ∉ picks.map Prod.fst) (hpick : t.probePick i = some (i, d)) (hbudget : t.budgetLeft ≠ 0) :
    Probed s (picks ++ [(i, d)]) (probeSlot t i) := by
  have heq := probeSlot_of_some hpick hbudget
  have hmodule : ∀ j : Fin 8, (probeSlot t i).sense.modules[j] =
      if j = i then { t.sense.modules[i] with probeCursor := dieAfter d } else t.sense.modules[j] := fun j => by
    rw [heq]
    exact setModule_modules i j _ t
  refine ⟨?_, ?_, fun x hx => ?_, fun j hj => ?_⟩
  · rw [heq, h.only]
    rfl
  · rw [heq, State.setSense_sense, h.sense]
    simp
  · obtain hold | rfl := List.mem_append.mp hx |>.imp_right List.mem_singleton.mp
    · have hne : x.1 ≠ i := fun heq => hnew (heq ▸ List.mem_map_of_mem hold)
      rw [hmodule, if_neg hne, h.picked x hold]
    · rw [hmodule, if_pos rfl, h.other i hnew]
  · rw [List.map_append, List.mem_append, not_or] at hj
    have hne : j ≠ i := fun heq => hj.2 (by simp [heq])
    rw [hmodule, if_neg hne, h.other j hj.1]

theorem Probed.budgetLeft {s t : State} {picks : List (Fin 8 × Nat)} (h : Probed s picks t) :
    t.budgetLeft = s.budgetLeft - picks.length := by
  have hparams : t.params = s.params := by rw [h.only]; rfl
  unfold State.budgetLeft
  rw [hparams, h.sense, List.length_append, List.length_map, Nat.sub_add_eq]

/-- The probes of a list of slots, in turn. -/
theorem probed_foldl (s : State) {l : List (Fin 8)} (hl : l.Nodup) : Probed s (s.probePicks l) (l.foldl probeSlot s) := by
  induction l using List.reverseRecOn with
  | nil => simpa [State.probePicks] using probed_nil s
  | append_singleton l i ih =>
    obtain ⟨hfront, -, hacross⟩ := List.nodup_append.mp hl
    have hstep := ih hfront
    set t := l.foldl probeSlot s with ht
    have hnew : i ∉ (s.probePicks l).map Prod.fst := fun hmem =>
      hacross i ((filterMap_probePick_sublist s l).subset
        (((List.take_sublist _ _).map Prod.fst).subset hmem)) i List.mem_cons_self rfl
    have hpick : t.probePick i = s.probePick i :=
      probePick_congr (hstep.other i hnew) (by rw [hstep.only]; rfl) (by rw [hstep.only]; rfl)
    have hbudget := hstep.budgetLeft
    rw [List.foldl_append, List.foldl_cons, List.foldl_nil, ← ht]
    unfold State.probePicks at hstep hbudget ⊢
    rw [List.filterMap_append]
    set picks := l.filterMap s.probePick with hpicks
    cases hfound : s.probePick i with
    | none =>
      rw [probeSlot_of_none (hpick.trans hfound), List.filterMap_cons_none hfound, List.filterMap_nil, List.append_nil]
      exact hstep
    | some x =>
      obtain ⟨j, d⟩ := x
      obtain rfl : j = i := (probePick_eq_some_iff.mp hfound).1
      rw [List.filterMap_cons_some hfound, List.filterMap_nil]
      by_cases hroom : picks.length < s.budgetLeft
      · rw [List.take_of_length_le (Nat.le_of_lt hroom)] at hstep hbudget
        rw [List.take_of_length_le (by rw [List.length_append, List.length_singleton]; omega)]
        refine hstep.another ?_ (hpick.trans hfound) (by omega)
        intro hmem
        exact hacross j ((filterMap_probePick_sublist s l).subset hmem) j List.mem_cons_self rfl
      · rw [List.take_append_of_le_length (Nat.le_of_not_lt hroom)]
        rw [List.length_take] at hbudget
        rw [probeSlot_of_spent (by omega)]
        exact hstep

/-- A slot's place in the order of the probe step (R81). -/
def probeRank (turn : Option (Fin 8)) (i : Fin 8) : Nat :=
  match turn with
  | none => i.val
  | some t => if t < i then i.val else i.val + 8

theorem slotsAfter_ascending (turn : Option (Fin 8)) :
    (slotsAfter turn).Pairwise fun i j => probeRank turn i < probeRank turn j := by
  revert turn
  decide

theorem mem_slotsAfter (turn : Option (Fin 8)) (i : Fin 8) : i ∈ slotsAfter turn := by
  revert turn i
  decide

/-- The probes of a gap, from the probe turn on. -/
def State.gapProbes (s : State) : List (Fin 8 × Nat) := s.probePicks (slotsAfter s.sense.probeTurn)

theorem probeStep_probed (s : State) : Probed s s.gapProbes (probeStep s) := probed_foldl s (slotsAfter_nodup _)

/-- The slots probed are the first DARK ones that have a die to probe, from the probe turn on (R81). -/
theorem gapProbes_first (s : State) : FirstOf (probeRank s.sense.probeTurn)
    (fun i => s.moduleState i = .dark ∧ ∃ d, s.probeable i d = true) s.budgetLeft (s.gapProbes.map Prod.fst) := by
  unfold State.gapProbes State.probePicks
  rw [List.map_take]
  refine firstOf_take ((slotsAfter_ascending _).sublist (filterMap_probePick_sublist s _)) (fun i => ?_) _
  rw [List.mem_map]
  obtain ⟨hsome, hnone⟩ := probeDie_spec (s := s) (i := i) rfl
  constructor
  · rintro ⟨x, hx, rfl⟩
    obtain ⟨i, -, hpick⟩ := List.mem_filterMap.mp hx
    obtain ⟨rfl, hdark, hdie⟩ := probePick_eq_some_iff.mp hpick
    exact ⟨hdark, x.2, probeable_of_probeDie hdie⟩
  · rintro ⟨hdark, d, hd⟩
    cases hdie : s.probeDie i with
    | none => exact absurd (hnone hdie d) (by simp [hd])
    | some e =>
      exact ⟨(i, e), List.mem_filterMap.mpr ⟨i, mem_slotsAfter _ i, probePick_eq_some_iff.mpr ⟨rfl, hdark, hdie⟩⟩, rfl⟩

theorem mem_gapProbes {s : State} {x : Fin 8 × Nat} (h : x ∈ s.gapProbes) :
    s.moduleState x.1 = .dark ∧ s.probeDie x.1 = some x.2 := by
  obtain ⟨i, -, hpick⟩ := List.mem_filterMap.mp (List.mem_of_mem_take h)
  obtain ⟨rfl, hboth⟩ := probePick_eq_some_iff.mp hpick
  exact hboth

theorem mem_gapProbes_probeable {s : State} {x : Fin 8 × Nat} (h : x ∈ s.gapProbes) :
    s.layout.presentDie x.2 = true ∧ slotOfDie x.2 = x.1 ∧ s.diePinned x.2 = false := by
  have hprobe := probeable_of_probeDie (mem_gapProbes h).2
  simp only [State.probeable, Bool.and_eq_true, decide_eq_true_eq, Bool.not_eq_true', and_assoc] at hprobe
  exact hprobe

/-- A probe tests the first die of its slot from the probe cursor on (R81). -/
theorem gapProbes_die_first {s : State} {x : Fin 8 × Nat} (h : x ∈ s.gapProbes) :
    FirstOf (rankFrom ((s.sense.modules[x.1].probeCursor).getD 0)) (fun d => s.probeable x.1 d = true) 1 [x.2] := by
  obtain ⟨hsome, -⟩ := probeDie_spec (s := s) (i := x.1) rfl
  obtain ⟨hd, hleast⟩ := hsome x.2 (mem_gapProbes h).2
  refine ⟨List.pairwise_singleton _ _, fun e he => ?_, le_refl _, fun e he hne => ⟨rfl, fun b hb => ?_⟩⟩
  · rw [List.mem_singleton.mp he]; exact hd
  · rw [List.mem_singleton.mp hb]
    exact hleast e he fun heq => hne (List.mem_singleton.mpr heq)

/-! ## Step 2: due tests (R82) -/

/-- A die's place in the order of the due-test step (R82). -/
def dueRank (served : Option Nat) (d : Nat) : Nat :=
  match served with
  | none => d
  | some p => if p < d then d else d + 110592

/-- The due dies are taken in turn. -/
theorem chooseDue_foldl (l : List Nat) (s : State) : l.foldl chooseDue s = s.setSense { s.sense with
    gap := s.sense.gap ++ l.map (.fresh .dueTest false)
    servicePos := l.getLast?.or s.sense.servicePos } := by
  induction l using List.reverseRecOn with
  | nil =>
    rw [List.map_nil, List.append_nil, List.getLast?_nil, Option.none_or]
    rfl
  | append_singleton l d ih =>
    rw [List.foldl_append, ih]
    simp [chooseDue, chooseDie, GapEntry.fresh]

theorem dueOrder_ascending {s : State} (hcanonical : Table.canonical s.map.records = true) (hpresent : RecordsPresent s) :
    s.dueOrder.Pairwise fun d e => dueRank s.sense.servicePos d < dueRank s.sense.servicePos e := by
  have hkeys := Table.keys_pairwise (Table.canonical_filter s.due hcanonical)
  have hbound : ∀ d ∈ Table.keys (s.map.records.filter s.due), d < 110592 := fun d hd => by
    obtain ⟨e, he, rfl⟩ := List.mem_map.mp hd
    exact presentDie_lt (hpresent e (List.mem_of_mem_filter he))
  unfold State.dueOrder dueRank
  dsimp only
  cases s.sense.servicePos with
  | none => exact hkeys
  | some p =>
    simp only [List.pairwise_append, List.mem_filter, decide_eq_true_eq]
    refine ⟨?_, ?_, fun d hd e he => ?_⟩
    · refine (hkeys.filter _).imp_of_mem fun hd he hlt => ?_
      simp only [List.mem_filter, decide_eq_true_eq] at hd he
      rw [if_pos hd.2, if_pos he.2]
      exact hlt
    · refine (hkeys.filter _).imp_of_mem fun hd he hlt => ?_
      simp only [List.mem_filter, decide_eq_true_eq] at hd he
      rw [if_neg (Nat.not_lt.mpr hd.2), if_neg (Nat.not_lt.mpr he.2)]
      omega
    · have := hbound d hd.1
      rw [if_pos hd.2, if_neg (Nat.not_lt.mpr he.2)]
      omega

theorem mem_dueOrder_iff {s : State} (hcanonical : Table.canonical s.map.records = true) {d : Nat} : d ∈ s.dueOrder ↔
    (s.recordState d = some .suspect ∨ s.recordState d = some .retest) ∧ s.onDark d = false ∧ d ∉ s.gapDies := by
  rw [mem_dueOrder, Table.mem_keys, Table.fetch_filter hcanonical]
  unfold State.recordState State.due
  cases Table.fetch s.map.records d with
  | none => simp
  | some r => simp [Option.filter, chosen_eq_false_iff, and_assoc]

end Sys2Proof.Machine
end


section
/-! PROOFS. The choice of a gap's tests, exactly: the survey's walk (R83, R93). -/

namespace Sys2Proof.Machine

/-! ## The cases of a die's turn (R93) -/

/-- Whether the survey has a use for the die: it is present, and its record, if it has one, is SUSPECT. -/
def State.undecided (s : State) (d : Nat) : Bool :=
  s.layout.presentDie d && decide (s.recordState d = none ∨ s.recordState d = some .suspect)

/-- Whether the die's turn counts it skipped. -/
def State.surveySkips (s : State) (d : Nat) : Bool := s.undecided d && s.onDark d

/-- Whether a test of the die serves the survey. -/
def State.surveyServes (s : State) (d : Nat) : Bool := s.undecided d && !s.onDark d

/-- Whether the die's turn adds a test of it. -/
def State.surveyChooses (s : State) (d : Nat) : Bool := s.surveyServes d && !s.chosen d

section Turn
variable {s : State} {d : Nat}

theorem undecided_iff : s.undecided d = true ↔
    s.layout.presentDie d = true ∧ (s.recordState d = none ∨ s.recordState d = some .suspect) := by
  unfold State.undecided
  rw [Bool.and_eq_true, decide_eq_true_eq]

theorem surveyTurn_of_undecided (h : s.undecided d = true) : surveyTurn d s =
    if s.onDark d then countSkipped s else if s.chosen d then shareTest d s else chooseDie d .survey true s := by
  obtain ⟨hpresent, hrecord | hrecord⟩ := undecided_iff.mp h <;>
  · unfold surveyTurn
    rw [hpresent, hrecord]
    rfl

theorem surveyTurn_of_passed (h : s.undecided d = false) : surveyTurn d s = s := by
  unfold surveyTurn
  split
  · rfl
  · next hpresent =>
    have hno : ¬ (s.recordState d = none ∨ s.recordState d = some .suspect) := fun hrecord =>
      Bool.noConfusion (h.symm.trans (undecided_iff.mpr ⟨by simpa using hpresent, hrecord⟩))
    split
    case h_5 hrecord => exact absurd (Or.inr hrecord) hno
    case h_6 hrecord => exact absurd (Or.inl hrecord) hno
    all_goals rfl

end Turn

/-! ## The state after a list of turns -/

/-- An entry marked as serving the survey when the survey's turns have reached its die. -/
def GapEntry.served (e : GapEntry) (s : State) (turns : List Nat) : GapEntry :=
  if e.die ∈ turns ∧ s.surveyServes e.die = true then { e with serves := true } else e

/-- The state after the dies of `turns` have had their turns, with the cursor at `c`. -/
def State.surveyed (s : State) (turns : List Nat) (c : Option Nat) : State :=
  s.setSense { s.sense with
    gap := s.sense.gap.map (fun e => e.served s turns) ++ (turns.filter s.surveyChooses).map (.fresh .survey true)
    long := { s.sense.long with
      cursor := c, skipped := s.sense.long.skipped + (turns.filter s.surveySkips).length } }

section Surveyed
variable {s : State} {turns : List Nat} {c : Option Nat} {d : Nat}

@[simp] theorem GapEntry.served_die (e : GapEntry) (s : State) (turns : List Nat) : (e.served s turns).die = e.die := by
  unfold GapEntry.served
  split <;> rfl

theorem surveyed_gapDies : (s.surveyed turns c).gapDies = s.gapDies ++ turns.filter s.surveyChooses := by
  unfold State.gapDies State.surveyed
  rw [State.setSense_sense, List.map_append, List.map_map, List.map_map]
  refine congrArg₂ _ (List.map_congr_left fun e _ => GapEntry.served_die e s turns) ?_
  exact List.map_id _

theorem surveyed_chosen (h : d ∉ turns) : (s.surveyed turns c).chosen d = s.chosen d := by
  rw [Bool.eq_iff_iff, chosen_iff, chosen_iff, surveyed_gapDies, List.mem_append, List.mem_filter]
  exact or_iff_left fun hmem => h hmem.1

theorem served_append_of_not {e : GapEntry} (h : e.die = d → s.surveyServes e.die = false) :
    e.served s (turns ++ [d]) = e.served s turns := by
  unfold GapEntry.served
  refine if_congr ?_ rfl rfl
  rw [List.mem_append, List.mem_singleton]
  constructor
  · rintro ⟨hold | hnew, hserves⟩
    · exact ⟨hold, hserves⟩
    · exact Bool.noConfusion ((h hnew).symm.trans hserves)
  · exact fun ⟨hold, hserves⟩ => ⟨.inl hold, hserves⟩

theorem filter_append_singleton (p : Nat → Bool) (l : List Nat) (d : Nat) :
    (l ++ [d]).filter p = l.filter p ++ if p d then [d] else [] := by
  rw [List.filter_append, List.filter_cons, List.filter_nil]

/-- One more turn. -/
theorem surveyTurn_surveyed (h : d ∉ turns) : surveyTurn d (s.surveyed turns c) = s.surveyed (turns ++ [d]) c := by
  have hundecided : (s.surveyed turns c).undecided d = s.undecided d := rfl
  have hdark : (s.surveyed turns c).onDark d = s.onDark d := rfl
  by_cases hu : s.undecided d = true
  case neg =>
    rw [Bool.not_eq_true] at hu
    have hserves : s.surveyServes d = false := by simp [State.surveyServes, hu]
    have hskips : s.surveySkips d = false := by simp [State.surveySkips, hu]
    have hchooses : s.surveyChooses d = false := by simp [State.surveyChooses, hserves]
    rw [surveyTurn_of_passed (hundecided.trans hu)]
    unfold State.surveyed
    rw [filter_append_singleton, filter_append_singleton, hskips, hchooses]
    simp only [Bool.false_eq_true, if_false, List.append_nil]
    rw [List.map_congr_left (g := fun e => e.served s (turns ++ [d])) fun e _ =>
      (served_append_of_not fun heq => heq ▸ hserves).symm]
  case pos =>
    rw [surveyTurn_of_undecided (hundecided.trans hu), hdark, surveyed_chosen h]
    by_cases hd : s.onDark d = true
    case pos =>
      have hserves : s.surveyServes d = false := by simp [State.surveyServes, hd]
      have hskips : s.surveySkips d = true := by simp [State.surveySkips, hu, hd]
      have hchooses : s.surveyChooses d = false := by simp [State.surveyChooses, hserves]
      rw [if_pos hd]
      unfold State.surveyed
      rw [filter_append_singleton, filter_append_singleton, hskips, hchooses, if_pos rfl, List.length_append]
      simp only [Bool.false_eq_true, if_false, List.append_nil]
      rw [List.map_congr_left (g := fun e => e.served s (turns ++ [d])) fun e _ =>
        (served_append_of_not fun heq => heq ▸ hserves).symm]
      rfl
    case neg =>
      have hserves : s.surveyServes d = true := by simp [State.surveyServes, hu, hd]
      have hskips : s.surveySkips d = false := by simp [State.surveySkips, hd]
      rw [if_neg hd]
      by_cases hc : s.chosen d = true
      case pos =>
        have hchooses : s.surveyChooses d = false := by simp [State.surveyChooses, hc]
        rw [if_pos hc]
        unfold State.surveyed shareTest
        rw [filter_append_singleton, filter_append_singleton, hskips, hchooses]
        simp only [Bool.false_eq_true, if_false, List.append_nil, State.setSense_sense, List.map_append, List.map_map]
        have hfirst : ∀ e : GapEntry, (if (e.served s turns).die = d then { e.served s turns with serves := true }
            else e.served s turns) = e.served s (turns ++ [d]) := fun e => by
          rw [GapEntry.served_die]
          by_cases heq : e.die = d
          · rw [if_pos heq]
            unfold GapEntry.served
            rw [if_pos (show e.die ∈ turns ++ [d] ∧ _ from ⟨by simp [heq], heq ▸ hserves⟩)]
            split <;> rfl
          · rw [if_neg heq, served_append_of_not fun h => absurd h heq]
        have hlast : ∀ x, (if (GapEntry.fresh .survey true x).die = d then
            { GapEntry.fresh .survey true x with serves := true } else .fresh .survey true x) = .fresh .survey true x :=
          fun x => by split <;> rfl
        simp only [Function.comp_def, hfirst, hlast]
        rfl
      case neg =>
        have hchooses : s.surveyChooses d = true := by simp [State.surveyChooses, hserves, hc]
        have hnot : ∀ e ∈ s.sense.gap, e.served s (turns ++ [d]) = e.served s turns := fun e he =>
          served_append_of_not fun heq => absurd ((chosen_iff s d).mpr (heq ▸ List.mem_map_of_mem he)) hc
        rw [if_neg hc]
        unfold State.surveyed
        rw [filter_append_singleton, filter_append_singleton, hskips, hchooses, if_pos rfl, List.map_append,
          List.map_congr_left hnot, ← List.append_assoc]
        simp only [Bool.false_eq_true, if_false, List.append_nil]
        rfl

theorem surveyed_budgetLeft : (s.surveyed turns c).budgetLeft = s.budgetLeft - (turns.filter s.surveyChooses).length := by
  have hgap : (s.surveyed turns c).sense.gap.length = s.sense.gap.length + (turns.filter s.surveyChooses).length := by
    unfold State.surveyed
    rw [State.setSense_sense, List.length_append, List.length_map, List.length_map]
  unfold State.budgetLeft
  rw [hgap, Nat.sub_add_eq]
  rfl

end Surveyed

/-! ## The walk (R83, R93) -/

/-- Whether a die is in the survey's scope. -/
def State.inSurvey (s : State) (d : Nat) : Prop :=
  d < 110592 ∧ inScope s.sense.long.region s.sense.long.colours s.sense.long.dice d = true

/-- The walk of a survey's cursor from die `d`, after the dies of `before` have had their turns: the dies that have theirs,
and where it stops for want of budget. -/
structure SurveyWalk (s : State) (before : List Nat) (d : Nat) (turns : List Nat) (stop : Option Nat) : Prop where
  ascending : turns.Pairwise (· < ·)
  mem : ∀ x, x ∈ turns ↔ (x = d ∨ (d < x ∧ s.inSurvey x)) ∧ ∀ e, stop = some e → x < e
  stopped : ∀ e, stop = some e → s.inSurvey e ∧ (s.surveyed (before ++ turns) stop).budgetLeft = 0 ∧
    ∃ last, turns.getLast? = some last ∧ s.surveyChooses last = true ∧ last < e ∧ ∀ x, last < x → x < e → ¬ s.inSurvey x

section Walk
variable {s : State}

theorem surveyStep_of_done {fuel : Nat} (h : s.sense.long.cursor = none) : surveyStep fuel s = s := by
  cases fuel with
  | zero => rfl
  | succ fuel => unfold surveyStep; rw [h]

theorem surveyStep_of_spent {fuel : Nat} (h : s.budgetLeft = 0) : surveyStep fuel s = s := by
  cases fuel with
  | zero => rfl
  | succ fuel =>
    unfold surveyStep
    split
    · rfl
    · rw [if_pos h]

theorem surveyStep_succ {fuel d : Nat} {turns : List Nat} (hnew : d ∉ turns)
    (hbudget : (s.surveyed turns (some d)).budgetLeft ≠ 0) : surveyStep (fuel + 1) (s.surveyed turns (some d)) =
      surveyStep fuel (s.surveyed (turns ++ [d])
        (nextInScope s.sense.long.region s.sense.long.colours s.sense.long.dice (d + 1))) := by
  have hcursor : (s.surveyed turns (some d)).sense.long.cursor = some d := rfl
  rw [surveyStep.eq_def]
  dsimp only
  rw [hcursor]
  dsimp only
  rw [if_neg hbudget, surveyTurn_surveyed hnew]
  rfl

theorem surveyStep_walk (fuel : Nat) {before : List Nat} {d : Nat} (hfuel : 0 < fuel) (henough : 110592 < fuel + d)
    (hbefore : ∀ x ∈ before, x < d) (hbudget : (s.surveyed before (some d)).budgetLeft ≠ 0) :
    ∃ turns stop, surveyStep fuel (s.surveyed before (some d)) = s.surveyed (before ++ turns) stop ∧
      SurveyWalk s before d turns stop := by
  induction fuel generalizing before d with
  | zero => exact absurd hfuel (lt_irrefl 0)
  | succ fuel ih =>
    rw [surveyStep_succ (fun h => lt_irrefl d (hbefore d h)) hbudget]
    cases hnext : nextInScope s.sense.long.region s.sense.long.colours s.sense.long.dice (d + 1) with
    | none =>
      refine ⟨[d], none, surveyStep_of_done rfl, List.pairwise_singleton _ _, fun x => ?_, fun e he => absurd he (by simp)⟩
      rw [List.mem_singleton]
      refine ⟨fun h => ⟨.inl h, fun e he => absurd he (by simp)⟩, fun ⟨h, _⟩ => h.resolve_right fun ⟨hlt, hbound, hin⟩ => ?_⟩
      exact Bool.noConfusion ((nextInScope_none hnext x hlt hbound).symm.trans hin)
    | some d' =>
      obtain ⟨hin, hle, hbound, hskip⟩ := nextInScope_some hnext
      have hbetween : ∀ x, d < x → x < d' → ¬ s.inSurvey x := fun x hlow hhigh ⟨_, hx⟩ =>
        Bool.noConfusion ((hskip x hlow hhigh).symm.trans hx)
      by_cases hspent : (s.surveyed (before ++ [d]) (some d')).budgetLeft = 0
      · refine ⟨[d], some d', surveyStep_of_spent hspent, List.pairwise_singleton _ _, fun x => ?_, fun e he => ?_⟩
        · rw [List.mem_singleton]
          constructor
          · rintro rfl
            exact ⟨.inl rfl, fun e he => Option.some.inj he ▸ hle⟩
          · rintro ⟨h, hstop⟩
            exact h.resolve_right fun ⟨hlt, hx⟩ => hbetween x hlt (hstop d' rfl) hx
        · obtain rfl := Option.some.inj he
          refine ⟨⟨hbound, hin⟩, hspent, d, rfl, ?_, hle, hbetween⟩
          by_contra hno
          rw [surveyed_budgetLeft, filter_append_singleton, if_neg hno, List.append_nil, ← surveyed_budgetLeft] at hspent
          exact hbudget hspent
      · obtain ⟨turns, stop, hstep, hascending, hmem, hstopped⟩ := ih (before := before ++ [d]) (d := d') (by omega) (by omega)
          (fun x hx => by
            obtain hx | hx := List.mem_append.mp hx
            · exact (hbefore x hx).trans hle
            · rw [List.mem_singleton.mp hx]; exact hle) hspent
        rw [List.append_assoc, List.singleton_append] at hstep hstopped
        have hfirst : ∀ x ∈ turns, d' ≤ x := fun x hx => ((hmem x).mp hx).1.elim (fun h => h.ge) fun h => h.1.le
        have hstops : ∀ e, stop = some e → d < e := fun e he => by
          obtain ⟨-, -, last, hlast, -, hlt, -⟩ := hstopped e he
          have := hfirst last (List.mem_of_getLast? hlast)
          omega
        refine ⟨d :: turns, stop, hstep, List.pairwise_cons.mpr ⟨fun x hx => Nat.lt_of_lt_of_le hle (hfirst x hx), hascending⟩,
          fun x => ?_, fun e he => ?_⟩
        · rw [List.mem_cons, hmem]
          constructor
          · rintro (rfl | ⟨hx, hstop⟩)
            · exact ⟨.inl rfl, hstops⟩
            · refine ⟨.inr ?_, hstop⟩
              obtain rfl | ⟨hlt, hx⟩ := hx
              · exact ⟨hle, hbound, hin⟩
              · exact ⟨Nat.lt_trans hle hlt, hx⟩
          · rintro ⟨hx, hstop⟩
            refine hx.imp_right fun ⟨hlt, hx⟩ => ⟨?_, hstop⟩
            obtain hlow | heq | hhigh := lt_trichotomy x d'
            · exact absurd hx (hbetween x hlt hlow)
            · exact .inl heq
            · exact .inr ⟨hhigh, hx⟩
        · obtain ⟨hscope, hspent', last, hlast, hrest⟩ := hstopped e he
          refine ⟨hscope, hspent', last, ?_, hrest⟩
          rw [List.getLast?_cons, hlast]
          rfl

end Walk

end Sys2Proof.Machine
end


section
/-! PROOFS. The choice of a gap's tests, exactly: the patrol (R84). -/

namespace Sys2Proof.Machine

/-! ## The state after the patrol's choices -/

/-- The patrol cursor after the dies of `dies` have been chosen. -/
def State.patrolCursor (s : State) (dies : List Nat) : Nat :=
  match dies.getLast? with
  | none => s.sense.patrol
  | some d => if d = 110591 then 0 else d + 1

/-- Whether the choices have wrapped past die 110,591. -/
def State.patrolWraps (s : State) (dies : List Nat) : Bool :=
  dies.any fun d => decide (d = 110591 ∨ d < s.sense.patrol)

/-- The state after the patrol has chosen the dies of `dies`. -/
def State.patrolled (s : State) (dies : List Nat) : State :=
  (s.setSense { s.sense with
    gap := s.sense.gap ++ dies.map (.fresh .patrol false)
    patrol := s.patrolCursor dies }).setEvents
  (if s.patrolWraps dies then s.events.counted .patrolCycles else s.events)

/-- The patrol's choices so far: the first patrollable dies from the cursor on. -/
structure PatrolSoFar (s : State) (dies : List Nat) : Prop where
  ascending : dies.Pairwise fun d e => rankFrom s.sense.patrol d < rankFrom s.sense.patrol e
  patrollable : ∀ d ∈ dies, s.patrollable d = true
  first : ∀ x, s.patrollable x = true → x ∉ dies → ∀ d ∈ dies, rankFrom s.sense.patrol d < rankFrom s.sense.patrol x

/-- A die comes before another when the order reaches it on an earlier lap, or on the same lap before the other. -/
theorem rankFrom_lt_iff {p a b : Nat} (ha : a < 110592) (hb : b < 110592) :
    rankFrom p a < rankFrom p b ↔ (p ≤ a ∧ b < p) ∨ ((p ≤ a ↔ p ≤ b) ∧ a < b) := by
  unfold rankFrom
  split <;> split <;> omega

section Patrolled
variable {s : State} {dies : List Nat} {d : Nat}

theorem patrolled_nil (s : State) : s.patrolled [] = s := by
  unfold State.patrolled State.patrolWraps State.patrolCursor
  rw [List.map_nil, List.append_nil]
  rfl

theorem patrolSoFar_nil (s : State) : PatrolSoFar s [] where
  ascending := .nil
  patrollable _ h := absurd h List.not_mem_nil
  first _ _ _ _ h := absurd h List.not_mem_nil

theorem patrolled_gapDies : (s.patrolled dies).gapDies = s.gapDies ++ dies := by
  unfold State.gapDies State.patrolled
  rw [State.setEvents_sense, State.setSense_sense, List.map_append, List.map_map]
  exact congrArg _ (List.map_id _)

theorem patrolled_patrollable_iff (x : Nat) :
    (s.patrolled dies).patrollable x = true ↔ s.patrollable x = true ∧ x ∉ dies := by
  have hchosen : (s.patrolled dies).chosen x = false ↔ s.chosen x = false ∧ x ∉ dies := by
    rw [chosen_eq_false_iff, chosen_eq_false_iff, patrolled_gapDies, List.mem_append, not_or]
  have hown : ∀ u : State, u.patrollable x = true ↔
      (u.layout.presentDie x && !u.onDark x && (u.recordState x).isNone) = true ∧ u.chosen x = false := fun u => by
    unfold State.patrollable
    rw [Bool.and_eq_true, Bool.not_eq_true']
  rw [hown, hown, hchosen, and_assoc]
  rfl

theorem patrollable_lt (h : s.patrollable d = true) : d < 110592 := by
  simp only [State.patrollable, Bool.and_eq_true, and_assoc] at h
  exact presentDie_lt h.1

theorem patrolCursor_concat (s : State) (dies : List Nat) (d : Nat) :
    s.patrolCursor (dies ++ [d]) = if d = 110591 then 0 else d + 1 := by
  unfold State.patrolCursor
  rw [List.getLast?_concat]

theorem patrolWraps_concat (s : State) (dies : List Nat) (d : Nat) :
    s.patrolWraps (dies ++ [d]) = (s.patrolWraps dies || decide (d = 110591 ∨ d < s.sense.patrol)) := by
  unfold State.patrolWraps
  rw [List.any_append]
  simp

/-- A choice that does not wrap. -/
theorem patrolTake_of_plain (h : d ≠ 110591) (hlt : d < 110592)
    (hwraps : s.patrolWraps (dies ++ [d]) = s.patrolWraps dies) :
    patrolTake d (s.patrolled dies) = s.patrolled (dies ++ [d]) := by
  have hcount : Config.dieCount = 110592 := rfl
  unfold patrolTake
  dsimp only
  rw [if_pos (by omega)]
  unfold State.patrolled
  rw [hwraps, patrolCursor_concat, if_neg h, List.map_append, ← List.append_assoc]
  rfl

/-- A choice of the last die, which wraps. -/
theorem patrolTake_of_last (hwraps : s.patrolWraps dies = false) :
    patrolTake 110591 (s.patrolled dies) = s.patrolled (dies ++ [110591]) := by
  have hcount : Config.dieCount = 110592 := rfl
  unfold patrolTake
  dsimp only
  rw [if_neg (by omega)]
  unfold State.patrolled
  rw [patrolWraps_concat, hwraps, patrolCursor_concat, if_pos rfl, List.map_append, ← List.append_assoc]
  rfl

/-- A choice after the search has wrapped. -/
theorem patrolTake_of_wrapped (h : d ≠ 110591) (hlt : d < 110592) (hbefore : s.patrolWraps dies = false)
    (hlow : d < s.sense.patrol) : patrolTake d (count .patrolCycles (s.patrolled dies)) = s.patrolled (dies ++ [d]) := by
  have hcount : Config.dieCount = 110592 := rfl
  unfold patrolTake
  dsimp only
  rw [if_pos (by omega)]
  unfold State.patrolled
  have hnow : decide (d = 110591 ∨ d < s.sense.patrol) = true := decide_eq_true (.inr hlow)
  rw [patrolWraps_concat, hbefore, hnow, patrolCursor_concat, if_neg h, List.map_append, ← List.append_assoc]
  rfl

/-- Where the cursor stands: at its start, or past the last die chosen, the one of greatest rank. -/
theorem PatrolSoFar.cursor (h : PatrolSoFar s dies) : (dies = [] ∧ s.patrolCursor dies = s.sense.patrol) ∨
    ∃ a ∈ dies, (∀ y ∈ dies, ¬ rankFrom s.sense.patrol a < rankFrom s.sense.patrol y) ∧
      s.patrolCursor dies = if a = 110591 then 0 else a + 1 := by
  obtain rfl | ⟨front, a, rfl⟩ := dies.eq_nil_or_concat
  · exact .inl ⟨rfl, rfl⟩
  · rw [List.concat_eq_append] at h ⊢
    refine .inr ⟨a, by simp, fun y hy => ?_, patrolCursor_concat s front a⟩
    obtain ⟨-, -, hacross⟩ := List.pairwise_append.mp h.ascending
    obtain hy | hy := List.mem_append.mp hy
    · exact Nat.lt_asymm (hacross y hy a List.mem_cons_self)
    · rw [List.mem_singleton.mp hy]
      exact lt_irrefl _

theorem patrolWraps_iff : s.patrolWraps dies = true ↔ ∃ y ∈ dies, y = 110591 ∨ y < s.sense.patrol := by
  unfold State.patrolWraps
  simp only [List.any_eq_true, decide_eq_true_eq]

/-- One more choice keeps the order, when the die comes before every other that is left. -/
theorem PatrolSoFar.another (h : PatrolSoFar s dies) (hd : s.patrollable d = true) (hnew : d ∉ dies)
    (hleast : ∀ x, s.patrollable x = true → x ∉ dies → x ≠ d → rankFrom s.sense.patrol d < rankFrom s.sense.patrol x) :
    PatrolSoFar s (dies ++ [d]) where
  ascending := by
    refine List.pairwise_append.mpr ⟨h.ascending, List.pairwise_singleton _ _, fun y hy e he => ?_⟩
    rw [List.mem_singleton.mp he]
    exact h.first d hd hnew y hy
  patrollable y hy := by
    obtain hy | hy := List.mem_append.mp hy
    · exact h.patrollable y hy
    · rw [List.mem_singleton.mp hy]; exact hd
  first x hx hout y hy := by
    rw [List.mem_append, not_or, List.mem_singleton] at hout
    obtain hy | hy := List.mem_append.mp hy
    · exact h.first x hx hout.1 y hy
    · rw [List.mem_singleton.mp hy]; exact hleast x hx hout.1 hout.2

end Patrolled

/-! ## One choice -/

section One
variable {s : State} {dies : List Nat} {d : Nat} (h : PatrolSoFar s dies) (hstart : s.sense.patrol < 110592)
include h hstart

/-- The die found from the cursor on. -/
theorem patrolTake_of_onward (hd : s.patrollable d = true) (hnew : d ∉ dies) (hle : s.patrolCursor dies ≤ d)
    (hbefore : ∀ x, s.patrollable x = true → x ∉ dies → ¬ (s.patrolCursor dies ≤ x ∧ x < d)) :
    patrolTake d (s.patrolled dies) = s.patrolled (dies ++ [d]) ∧ PatrolSoFar s (dies ++ [d]) := by
  have hlt := patrollable_lt hd
  have hcursor := h.cursor
  refine ⟨?_, h.another hd hnew fun x hx hout hne => ?_⟩
  · by_cases hlast : d = 110591
    · subst hlast
      refine patrolTake_of_last (Bool.eq_false_iff.mpr fun hwraps => ?_)
      obtain ⟨y, hy, hy'⟩ := patrolWraps_iff.mp hwraps
      have hne : y ≠ 110591 := fun heq => hnew (heq ▸ hy)
      have hrank := (rankFrom_lt_iff (patrollable_lt (h.patrollable y hy)) hlt).mp (h.first _ hd hnew y hy)
      omega
    · refine patrolTake_of_plain hlast hlt ?_
      rw [patrolWraps_concat]
      by_cases hlow : d < s.sense.patrol
      · have hwraps : s.patrolWraps dies = true := by
          obtain ⟨-, hc⟩ | ⟨a, ha, -, hc⟩ := hcursor
          · omega
          · rw [hc] at hle
            refine patrolWraps_iff.mpr ⟨a, ha, ?_⟩
            split at hle <;> omega
        rw [hwraps, Bool.true_or]
      · rw [decide_eq_false (by omega), Bool.or_false]
  · have hx' := patrollable_lt hx
    have hskip := hbefore x hx hout
    obtain ⟨-, hc⟩ | ⟨a, ha, -, hc⟩ := hcursor
    · rw [rankFrom_lt_iff hlt hx']
      omega
    · have ha' := patrollable_lt (h.patrollable a ha)
      have hrank := (rankFrom_lt_iff ha' hlt).mp (h.first d hd hnew a ha)
      have hrank' := (rankFrom_lt_iff ha' hx').mp (h.first x hx hout a ha)
      rw [hc] at hle hskip
      rw [rankFrom_lt_iff hlt hx']
      by_cases hlast : a = 110591
      · rw [if_pos hlast] at hle hskip
        omega
      · rw [if_neg hlast] at hle hskip
        omega

/-- The die found only after the search has wrapped. -/
theorem patrolTake_of_around (hd : s.patrollable d = true) (hnew : d ∉ dies) (hlow : d < s.patrolCursor dies)
    (hnone : ∀ x, s.patrollable x = true → x ∉ dies → x < s.patrolCursor dies ∧ ¬ x < d) :
    patrolTake d (count .patrolCycles (s.patrolled dies)) = s.patrolled (dies ++ [d]) ∧ PatrolSoFar s (dies ++ [d]) := by
  have hlt := patrollable_lt hd
  have hfirst : (∀ x, s.patrollable x = true → x ∉ dies → x < s.sense.patrol) ∧ s.patrolWraps dies = false := by
    obtain ⟨rfl, hc⟩ | ⟨a, ha, hgreatest, hc⟩ := h.cursor
    · exact ⟨fun x hx hout => hc ▸ (hnone x hx hout).1, rfl⟩
    · have ha' := patrollable_lt (h.patrollable a ha)
      have hrank := (rankFrom_lt_iff ha' hlt).mp (h.first d hd hnew a ha)
      have hne : d ≠ a := fun heq => hnew (heq ▸ ha)
      have hlast : a ≠ 110591 := fun heq => by
        rw [hc, if_pos heq] at hlow
        exact absurd hlow (Nat.not_lt_zero d)
      rw [hc, if_neg hlast] at hlow
      refine ⟨fun x hx hout => ?_, Bool.eq_false_iff.mpr fun hwraps => ?_⟩
      · have hrank' := (rankFrom_lt_iff ha' (patrollable_lt hx)).mp (h.first x hx hout a ha)
        have hlow' := (hnone x hx hout).1
        rw [hc, if_neg hlast] at hlow'
        omega
      · obtain ⟨y, hy, hy'⟩ := patrolWraps_iff.mp hwraps
        have hle := mt (rankFrom_lt_iff ha' (patrollable_lt (h.patrollable y hy))).mpr (hgreatest y hy)
        omega
  obtain ⟨hearly, hwraps⟩ := hfirst
  have hd' := hearly d hd hnew
  refine ⟨patrolTake_of_wrapped (by omega) (by omega) hwraps hd', h.another hd hnew fun x hx hout hne => ?_⟩
  have hx' := hearly x hx hout
  have hge := (hnone x hx hout).2
  rw [rankFrom_lt_iff hlt (patrollable_lt hx)]
  omega

/-- One choice of the patrol: the next die in its order, or nothing when none is left. -/
theorem patrolOne_patrolled : (∃ d, patrolOne (s.patrolled dies) = s.patrolled (dies ++ [d]) ∧ PatrolSoFar s (dies ++ [d])) ∨
    (patrolOne (s.patrolled dies) = s.patrolled dies ∧ ∀ x, s.patrollable x = true → x ∈ dies) := by
  have hcount : Config.dieCount = 110592 := rfl
  have hcursor : (s.patrolled dies).sense.patrol = s.patrolCursor dies := rfl
  have hout : ∀ x, s.patrollable x = true → x ∉ dies → (s.patrolled dies).patrollable x = true := fun x hx hx' =>
    (patrolled_patrollable_iff x).mpr ⟨hx, hx'⟩
  unfold patrolOne
  dsimp only
  rw [hcursor, hcount]
  cases honward : firstFrom (s.patrolled dies).patrollable (110592 - s.patrolCursor dies) (s.patrolCursor dies) with
  | some d =>
    obtain ⟨hd, hle, -, hbefore⟩ := firstFrom_some honward
    obtain ⟨hd, hnew⟩ := (patrolled_patrollable_iff d).mp hd
    exact .inl ⟨d, patrolTake_of_onward h hstart hd hnew hle fun x hx hx' ⟨hlow, hhigh⟩ =>
      Bool.noConfusion ((hbefore x hlow hhigh).symm.trans (hout x hx hx'))⟩
  | none =>
    have hnolate : ∀ x, s.patrollable x = true → x ∉ dies → x < s.patrolCursor dies := fun x hx hx' => by
      by_contra hge
      have hlt := patrollable_lt hx
      exact Bool.noConfusion ((firstFrom_none honward x (by omega) (by omega)).symm.trans (hout x hx hx'))
    cases haround : firstFrom (s.patrolled dies).patrollable (s.patrolCursor dies) 0 with
    | some d =>
      obtain ⟨hd, -, -, hbefore⟩ := firstFrom_some haround
      obtain ⟨hd, hnew⟩ := (patrolled_patrollable_iff d).mp hd
      exact .inl ⟨d, patrolTake_of_around h hstart hd hnew (hnolate d hd hnew) fun x hx hx' =>
        ⟨hnolate x hx hx', fun hlow => Bool.noConfusion ((hbefore x (Nat.zero_le x) hlow).symm.trans (hout x hx hx'))⟩⟩
    | none =>
      refine .inr ⟨rfl, fun x hx => ?_⟩
      by_contra hx'
      have hlow := hnolate x hx hx'
      exact Bool.noConfusion ((firstFrom_none haround x (Nat.zero_le x) (by omega)).symm.trans (hout x hx hx'))

end One

/-! ## The step -/

theorem patrolStep_of_done {s : State} (h : patrolOne s = s) (b : Nat) : patrolStep b s = s := by
  induction b with
  | zero => rfl
  | succ b ih => unfold patrolStep; rw [h, ih]

/-- The patrol takes the first dies in its order, as many as there are and the budget allows (R84). -/
theorem patrolStep_patrolled {s : State} (hstart : s.sense.patrol < 110592) (b : Nat) {dies : List Nat}
    (h : PatrolSoFar s dies) : ∃ more, patrolStep b (s.patrolled dies) = s.patrolled (dies ++ more) ∧
      PatrolSoFar s (dies ++ more) ∧ more.length ≤ b ∧
      ∀ x, s.patrollable x = true → x ∉ dies ++ more → more.length = b := by
  induction b generalizing dies with
  | zero => exact ⟨[], by rw [List.append_nil]; rfl, by rwa [List.append_nil], le_refl _, fun _ _ _ => rfl⟩
  | succ b ih =>
    obtain ⟨d, hone, hsofar⟩ | ⟨hdone, hall⟩ := patrolOne_patrolled h hstart
    · obtain ⟨more, hstep, hmore, hlength, hfull⟩ := ih hsofar
      rw [List.append_assoc, List.singleton_append] at hstep hmore hfull
      refine ⟨d :: more, ?_, hmore, Nat.succ_le_succ hlength, fun x hx hout => congrArg Nat.succ (hfull x hx hout)⟩
      unfold patrolStep
      rw [hone, hstep]
    · exact ⟨[], by rw [patrolStep_of_done hdone, List.append_nil], by rwa [List.append_nil], Nat.zero_le _,
        fun x hx hout => absurd (List.mem_append_left _ (hall x hx)) hout⟩

/-- The dies the patrol chooses, as R84 orders them. -/
theorem patrolStep_first {s : State} (hstart : s.sense.patrol < 110592) (b : Nat) :
    ∃ dies, patrolStep b s = s.patrolled dies ∧
      FirstOf (rankFrom s.sense.patrol) (fun d => s.patrollable d = true) b dies := by
  obtain ⟨dies, hstep, hsofar, hlength, hfull⟩ := patrolStep_patrolled hstart b (patrolSoFar_nil s)
  rw [List.nil_append] at hstep hsofar hfull
  rw [patrolled_nil] at hstep
  exact ⟨dies, hstep, hsofar.ascending, hsofar.patrollable, hlength, fun x hx hout =>
    ⟨hfull x hx hout, fun d hd => hsofar.first x hx hout d hd⟩⟩

end Sys2Proof.Machine
end


section
/-! PROOFS. The choice of a gap's tests, exactly: the four steps put together (R80). -/

namespace Sys2Proof.Machine

/-! ## The patrol, wherever its cursor stands -/

/-- What the patrol's choices leave when nothing is known of its cursor. -/
structure Patrols (s : State) (dies : List Nat) (t : State) : Prop where
  only : OnlyChanges [.sense, .events] s t
  sense : t.sense = { s.sense with
    gap := s.sense.gap ++ dies.map (.fresh .patrol false), patrol := t.sense.patrol }
  patrollable : ∀ d ∈ dies, s.patrollable d = true
  counter : ∀ c, c ≠ .patrolCycles → t.events.counter c = s.events.counter c

theorem patrols_nil (s : State) : Patrols s [] s where
  only := .refl _ s
  sense := by rw [List.map_nil, List.append_nil]
  patrollable _ h := absurd h List.not_mem_nil
  counter _ _ := rfl

theorem patrolTake_patrols {s : State} {d : Nat} (h : s.patrollable d = true) : Patrols s [d] (patrolTake d s) := by
  refine ⟨(patrolTake_acts d s).only, ?_, fun e he => List.mem_singleton.mp he ▸ h, fun c hc => ?_⟩
  · unfold patrolTake
    dsimp only
    split <;> rfl
  · unfold patrolTake
    dsimp only
    split
    · rfl
    · exact EventUnit.counted_counter_of_ne _ _ hc

theorem patrolOne_patrols (s : State) : ∃ dies, Patrols s dies (patrolOne s) := by
  unfold patrolOne
  dsimp only
  split
  · next hfirst => exact ⟨_, patrolTake_patrols (firstFrom_some hfirst).1⟩
  · split
    · next d hfirst =>
      have hd : (count .patrolCycles s).patrollable d = true := (firstFrom_some hfirst).1
      have htake := patrolTake_patrols hd
      exact ⟨[d], ((count_acts .patrolCycles s).only.mono (by decide)).trans htake.only, htake.sense, htake.patrollable,
        fun c hc => (htake.counter c hc).trans (EventUnit.counted_counter_of_ne _ _ hc)⟩
    · exact ⟨[], patrols_nil s⟩

theorem Patrols.trans {s t u : State} {a b : List Nat} (h : Patrols s a t) (k : Patrols t b u) : Patrols s (a ++ b) u where
  only := h.only.trans k.only
  sense := by
    rw [k.sense, h.sense, List.map_append, List.append_assoc]
  patrollable d hd := by
    obtain hd | hd := List.mem_append.mp hd
    · exact h.patrollable d hd
    · have hlate := k.patrollable d hd
      simp only [State.patrollable, Bool.and_eq_true, Bool.not_eq_true', chosen_eq_false_iff] at hlate ⊢
      obtain ⟨⟨⟨hpresent, hdark⟩, hrecord⟩, hnew⟩ := hlate
      have hold : d ∉ s.gapDies := fun hmem => hnew (by
        unfold State.gapDies
        rw [h.sense, List.map_append]
        exact List.mem_append_left _ hmem)
      unfold State.onDark State.moduleState at hdark ⊢
      unfold State.recordState at hrecord ⊢
      rw [h.sense] at hdark
      rw [h.only.map] at hrecord
      rw [h.only.layout] at hpresent
      exact ⟨⟨⟨hpresent, hdark⟩, hrecord⟩, hold⟩
  counter c hc := (k.counter c hc).trans (h.counter c hc)

theorem patrolStep_patrols (b : Nat) (s : State) : ∃ dies, Patrols s dies (patrolStep b s) := by
  induction b generalizing s with
  | zero => exact ⟨[], patrols_nil s⟩
  | succ b ih =>
    obtain ⟨first, hfirst⟩ := patrolOne_patrols s
    obtain ⟨rest, hrest⟩ := ih (patrolOne s)
    exact ⟨first ++ rest, hfirst.trans hrest⟩

/-- What the patrol's step leaves, and in what order it chose when its cursor stands at a die. -/
theorem patrolStep_spec (b : Nat) (s : State) : ∃ dies, Patrols s dies (patrolStep b s) ∧
    (s.sense.patrol < 110592 →
      FirstOf (rankFrom s.sense.patrol) (fun d => s.patrollable d = true) b dies ∧
      (patrolStep b s).sense.patrol = s.patrolCursor dies ∧
      (patrolStep b s).events.counter .patrolCycles =
        s.events.counter .patrolCycles + if s.patrolWraps dies then 1 else 0) := by
  by_cases hstart : s.sense.patrol < 110592
  · obtain ⟨dies, hstep, hfirst⟩ := patrolStep_first hstart b
    have ⟨_, hpatrollable, _⟩ := hfirst
    refine ⟨dies, ?_, fun _ => ⟨hfirst, by rw [hstep]; rfl, ?_⟩⟩
    · refine ⟨(patrolStep_acts b s).only, ?_, hpatrollable, fun c hc => ?_⟩
      · rw [hstep]; rfl
      · rw [hstep]
        show (if s.patrolWraps dies then s.events.counted .patrolCycles else s.events).counter c = _
        split
        · exact EventUnit.counted_counter_of_ne _ _ hc
        · rfl
    · rw [hstep]
      show (if s.patrolWraps dies then s.events.counted .patrolCycles else s.events).counter _ = _
      split
      · exact EventUnit.counted_counter_self _ _
      · exact (BitVec.add_zero _).symm
  · obtain ⟨dies, h⟩ := patrolStep_patrols b s
    exact ⟨dies, h, fun hno => absurd hno hstart⟩

/-! ## The survey, running or not -/

theorem surveyed_nil (s : State) : s.surveyed [] s.sense.long.cursor = s := by
  have hgap : s.sense.gap.map (fun e => e.served s []) = s.sense.gap := by
    refine (List.map_congr_left fun e _ => ?_).trans (List.map_id _)
    exact if_neg fun h => List.not_mem_nil h.1
  unfold State.surveyed
  rw [hgap, List.filter_nil, List.filter_nil, List.map_nil, List.append_nil]
  rfl

/-- The survey step of a gap: a running survey takes it. -/
def surveyPart (s : State) : State :=
  if s.sense.long.running = true ∧ s.sense.long.kind = .survey then surveyStep (Config.dieCount + 1) s else s

/-- A survey that walks in this gap. -/
def State.surveys (s : State) : Prop :=
  s.sense.long.running = true ∧ s.sense.long.kind = .survey ∧ s.budgetLeft ≠ 0

theorem surveyPart_of_idle {s : State} (h : ¬ s.surveys ∨ s.sense.long.cursor = none) : surveyPart s = s := by
  unfold surveyPart
  split
  · next hrunning =>
    obtain hno | hnone := h
    · exact surveyStep_of_spent (not_not.mp fun hbudget => hno ⟨hrunning.1, hrunning.2, hbudget⟩)
    · exact surveyStep_of_done hnone
  · rfl

/-- The survey's turns in a gap, and where it leaves its cursor. -/
theorem surveyPart_spec (s : State) : ∃ turns stop, surveyPart s = s.surveyed turns stop ∧
    ((¬ s.surveys ∨ s.sense.long.cursor = none) → turns = [] ∧ stop = s.sense.long.cursor) ∧
    ∀ c, s.surveys → s.sense.long.cursor = some c → SurveyWalk s [] c turns stop := by
  by_cases hidle : ¬ s.surveys ∨ s.sense.long.cursor = none
  · refine ⟨[], s.sense.long.cursor, (surveyPart_of_idle hidle).trans (surveyed_nil s).symm, fun _ => ⟨rfl, rfl⟩,
      fun c hsurveys hcursor => ?_⟩
    exact absurd hidle (not_or.mpr ⟨not_not.mpr hsurveys, by rw [hcursor]; simp⟩)
  · obtain ⟨hsurveys, hcursor⟩ := not_or.mp hidle
    have hsurveys := not_not.mp hsurveys
    obtain ⟨d, hd⟩ := Option.ne_none_iff_exists'.mp hcursor
    have hstart : s.surveyed [] (some d) = s := by rw [← hd, surveyed_nil]
    obtain ⟨hrunning, hkind, hbudget⟩ := hsurveys
    obtain ⟨turns, stop, hstep, hwalk⟩ := surveyStep_walk (s := s) (before := []) (d := d) (Config.dieCount + 1) (Nat.succ_pos _)
      (Nat.lt_add_right d (Nat.lt_succ_self _)) (fun x hx => absurd hx List.not_mem_nil) (by rw [hstart]; exact hbudget)
    rw [hstart, List.nil_append] at hstep
    refine ⟨turns, stop, (if_pos ⟨hrunning, hkind⟩).trans hstep, fun h => absurd h hidle, fun c _ hc => ?_⟩
    rw [Option.some.inj (hc.symm.trans hd)]
    exact hwalk

/-! ## The dies of each purpose -/

/-- The dies of the entries of one purpose. -/
def diesFor (p : Purpose) (gap : List GapEntry) : List Nat := (gap.filter fun e => decide (e.purpose = p)).map GapEntry.die

theorem diesFor_append (p : Purpose) (a b : List GapEntry) : diesFor p (a ++ b) = diesFor p a ++ diesFor p b := by
  unfold diesFor
  rw [List.filter_append, List.map_append]

theorem diesFor_fresh (p q : Purpose) (b : Bool) (l : List Nat) :
    diesFor p (l.map (.fresh q b)) = if q = p then l else [] := by
  unfold diesFor
  rw [List.filter_map, List.map_map]
  have hpurpose : ((fun e : GapEntry => decide (e.purpose = p)) ∘ GapEntry.fresh q b) = fun _ => decide (q = p) := rfl
  rw [hpurpose]
  split
  · next heq =>
    rw [List.filter_eq_self.mpr fun d _ => decide_eq_true heq]
    exact List.map_id _
  · next hne =>
    rw [List.filter_eq_nil_iff.mpr fun d _ h => hne (of_decide_eq_true h)]
    rfl

theorem diesFor_served (p : Purpose) (l : List GapEntry) (s : State) (turns : List Nat) :
    diesFor p (l.map fun e => e.served s turns) = diesFor p l := by
  have hpurpose : ∀ e : GapEntry, (e.served s turns).purpose = e.purpose := fun e => by
    unfold GapEntry.served
    split <;> rfl
  unfold diesFor
  rw [List.filter_map, List.map_map]
  refine (List.map_congr_left fun e _ => GapEntry.served_die e s turns).trans (congrArg _ (List.filter_congr fun e _ => ?_))
  exact decide_eq_decide.mpr (by rw [hpurpose])

/-! ## The choice -/

/-- The dies of the due tests of a gap. -/
def State.gapDues (s : State) : List Nat := (probeStep s).dueOrder.take (probeStep s).budgetLeft

/-- The entries of the probes and the due tests of a gap. -/
def State.firstEntries (s : State) : List GapEntry :=
  (s.gapProbes.map Prod.snd).map (.fresh .probe false) ++ s.gapDues.map (.fresh .dueTest false)

/-- What the choice of a gap's tests leaves: the dies with their turns in the survey, where its cursor stops, and the dies of
the patrol (R80). -/
structure ChosenTests (s : State) (turns : List Nat) (stop : Option Nat) (patrol : List Nat) (t : State) : Prop where
  sense : t.sense = { s.sense with
    gap := s.firstEntries.map (fun e => e.served (dueStep (probeStep s)) turns) ++
      (turns.filter (dueStep (probeStep s)).surveyChooses).map (.fresh .survey true) ++ patrol.map (.fresh .patrol false)
    modules := (probeStep s).sense.modules
    probeTurn := (s.gapProbes.getLast?.map Prod.fst).or s.sense.probeTurn
    servicePos := s.gapDues.getLast?.or s.sense.servicePos
    patrol := t.sense.patrol
    long := { s.sense.long with
      cursor := stop
      skipped := s.sense.long.skipped + (turns.filter (dueStep (probeStep s)).surveySkips).length } }
  counter : ∀ c, c ≠ .patrolCycles → t.events.counter c = s.events.counter c
  idle : ¬ (dueStep (probeStep s)).surveys ∨ s.sense.long.cursor = none → turns = [] ∧ stop = s.sense.long.cursor
  walk : ∀ c, (dueStep (probeStep s)).surveys → s.sense.long.cursor = some c →
    SurveyWalk (dueStep (probeStep s)) [] c turns stop
  patrollable : ∀ d ∈ patrol, ((dueStep (probeStep s)).surveyed turns stop).patrollable d = true
  patrol_first : s.sense.patrol < 110592 →
    FirstOf (rankFrom s.sense.patrol) (fun d => ((dueStep (probeStep s)).surveyed turns stop).patrollable d = true)
      ((dueStep (probeStep s)).surveyed turns stop).budgetLeft patrol ∧
    t.sense.patrol = s.patrolCursor patrol ∧
    t.events.counter .patrolCycles = s.events.counter .patrolCycles + if s.patrolWraps patrol then 1 else 0

section Steps
variable {s : State} (hgap : s.sense.gap = [])
include hgap

theorem probeStep_sense : (probeStep s).sense = { s.sense with
    gap := (s.gapProbes.map Prod.snd).map (.fresh .probe false)
    modules := (probeStep s).sense.modules
    probeTurn := (s.gapProbes.getLast?.map Prod.fst).or s.sense.probeTurn } := by
  have hsense := (probeStep_probed s).sense
  rw [hgap, List.nil_append] at hsense
  rw [List.map_map]
  exact hsense

theorem dueStep_eq : dueStep (probeStep s) = s.setSense { s.sense with
    gap := s.firstEntries
    modules := (probeStep s).sense.modules
    probeTurn := (s.gapProbes.getLast?.map Prod.fst).or s.sense.probeTurn
    servicePos := s.gapDues.getLast?.or s.sense.servicePos } := by
  have honly := (probeStep_probed s).only
  have hsense := probeStep_sense hgap
  have hdue : dueStep (probeStep s) = _ := chooseDue_foldl s.gapDues (probeStep s)
  rw [hdue, hsense, honly]
  rfl

/-- The four steps put together. -/
theorem chooseTests_chosen : ∃ turns stop patrol, ChosenTests s turns stop patrol (chooseTests s) := by
  obtain ⟨turns, stop, hsurvey, hidle, hwalk⟩ := surveyPart_spec (dueStep (probeStep s))
  set u := dueStep (probeStep s) with hu
  obtain ⟨patrol, hpatrols, hfirst⟩ := patrolStep_spec (u.surveyed turns stop).budgetLeft (u.surveyed turns stop)
  have hdue : u = _ := dueStep_eq hgap
  have hlong : u.sense.long = s.sense.long := by rw [hdue]; rfl
  have hcursor : u.sense.patrol = s.sense.patrol := by rw [hdue]; rfl
  have hevents : u.events = s.events := by rw [hdue]; rfl
  have hchoose : chooseTests s = patrolStep (u.surveyed turns stop).budgetLeft (u.surveyed turns stop) := by
    rw [← hsurvey]; rfl
  rw [hlong] at hidle hwalk
  refine ⟨turns, stop, patrol, ?_⟩
  rw [hchoose]
  refine ⟨?_, fun c hc => ?_, hidle, hwalk, hpatrols.patrollable, fun hstart => ?_⟩
  · have hsense : u.sense = _ := congrArg State.sense hdue
    have hsurveyed : (u.surveyed turns stop).sense = { u.sense with
      gap := u.sense.gap.map (fun e => e.served u turns) ++ (turns.filter u.surveyChooses).map (.fresh .survey true)
      long := { u.sense.long with
        cursor := stop, skipped := u.sense.long.skipped + (turns.filter u.surveySkips).length } } := rfl
    rw [hpatrols.sense, hsurveyed, hsense]
    rfl
  · exact (hpatrols.counter c hc).trans (congrArg (·.counter c) hevents)
  · obtain ⟨hdies, hstop, hcycles⟩ := hfirst (hcursor.symm ▸ hstart)
    have hwhere : (u.surveyed turns stop).sense.patrol = s.sense.patrol := hcursor
    have hcount : (u.surveyed turns stop).events = s.events := hevents
    unfold State.patrolCursor at hstop
    unfold State.patrolWraps at hcycles
    rw [hwhere] at hdies hstop hcycles
    rw [hcount] at hcycles
    exact ⟨hdies, hstop, hcycles⟩

end Steps

end Sys2Proof.Machine
end


section
/-! PROOFS. PASS_END with no standby waiting: what the choice of a gap's tests has chosen (R79 to R84, R93). -/

namespace Sys2Proof.Machine

/-! ## The first two steps, told of the state they start from -/

/-- The dies that the survey adds. -/
def State.surveyDies (s : State) (turns : List Nat) : List Nat := turns.filter (dueStep (probeStep s)).surveyChooses

section FirstSteps
variable {s : State}

theorem probeStep_moduleState (i : Fin 8) : (probeStep s).moduleState i = s.moduleState i := by
  have hprobed := probeStep_probed s
  unfold State.moduleState
  by_cases hi : i ∈ s.gapProbes.map Prod.fst
  · obtain ⟨x, hx, rfl⟩ := List.mem_map.mp hi
    rw [hprobed.picked x hx]
  · rw [hprobed.other i hi]

theorem probeStep_onDark (d : Nat) : (probeStep s).onDark d = s.onDark d := by
  unfold State.onDark
  rw [probeStep_moduleState]

/-- A probe is on a DARK module. -/
theorem onDark_of_mem_gapProbes {d : Nat} (h : d ∈ s.gapProbes.map Prod.snd) : s.onDark d = true := by
  obtain ⟨x, hx, rfl⟩ := List.mem_map.mp h
  obtain ⟨-, hslot, -⟩ := mem_gapProbes_probeable hx
  have hdark := (mem_gapProbes hx).1
  rw [← hslot] at hdark
  exact decide_eq_true hdark

variable (hgap : s.sense.gap = [])
include hgap

theorem budgetLeft_of_empty : s.budgetLeft = s.params.b := by
  unfold State.budgetLeft
  rw [hgap]
  rfl

theorem probeStep_gapDies : (probeStep s).gapDies = s.gapProbes.map Prod.snd := by
  unfold State.gapDies
  rw [probeStep_sense hgap, List.map_map]
  exact List.map_id _

theorem probeStep_budgetLeft : (probeStep s).budgetLeft = s.params.b - s.gapProbes.length := by
  rw [(probeStep_probed s).budgetLeft, budgetLeft_of_empty hgap]

/-- The due tests are the first dies that are due, off DARK modules, from the service position on (R82). -/
theorem gapDues_first (hcanonical : Table.canonical s.map.records = true) (hpresent : RecordsPresent s) :
    FirstOf (dueRank s.sense.servicePos)
      (fun d => (s.recordState d = some .suspect ∨ s.recordState d = some .retest) ∧ s.onDark d = false)
      (s.params.b - s.gapProbes.length) s.gapDues := by
  have honly := (probeStep_acts s).only
  have hmap : (probeStep s).map = s.map := honly.map
  have hserved : (probeStep s).sense.servicePos = s.sense.servicePos := by rw [probeStep_sense hgap]
  have hrecords : RecordsPresent (probeStep s) := by
    unfold RecordsPresent
    rw [hmap, honly.layout]
    exact hpresent
  have horder := dueOrder_ascending (hmap ▸ hcanonical) hrecords
  rw [hserved] at horder
  rw [← probeStep_budgetLeft hgap]
  refine firstOf_take horder (fun d => ?_) _
  have hrecord : (probeStep s).recordState d = s.recordState d := by
    unfold State.recordState
    rw [hmap]
  rw [mem_dueOrder_iff (hmap ▸ hcanonical), hrecord, probeStep_onDark, probeStep_gapDies hgap]
  refine and_congr_right' (and_iff_left_of_imp fun hlit hmem => ?_)
  rw [onDark_of_mem_gapProbes hmem] at hlit
  exact Bool.noConfusion hlit

theorem mem_gapDues_record (hcanonical : Table.canonical s.map.records = true) (hpresent : RecordsPresent s) {d : Nat}
    (h : d ∈ s.gapDues) : s.recordState d = some .suspect ∨ s.recordState d = some .retest := by
  have ⟨_, hdue, _⟩ := gapDues_first hgap hcanonical hpresent
  exact (hdue d h).1

theorem dueStep_gapDies : (dueStep (probeStep s)).gapDies = s.gapProbes.map Prod.snd ++ s.gapDues := by
  rw [dueStep_eq hgap]
  show s.firstEntries.map GapEntry.die = _
  unfold State.firstEntries
  rw [List.map_append, List.map_map, List.map_map]
  rw [List.map_map]
  exact congrArg₂ _ rfl (List.map_id _)

theorem dueStep_budgetLeft :
    (dueStep (probeStep s)).budgetLeft = s.params.b - s.gapProbes.length - s.gapDues.length := by
  rw [dueStep_eq hgap]
  show s.params.b - s.firstEntries.length = _
  unfold State.firstEntries
  rw [List.length_append, List.length_map, List.length_map, List.length_map, Nat.sub_add_eq]

theorem dueStep_onDark (d : Nat) : (dueStep (probeStep s)).onDark d = s.onDark d := by
  refine Eq.trans ?_ (probeStep_onDark d)
  rw [dueStep_eq hgap]
  rfl

theorem dueStep_undecided (d : Nat) : (dueStep (probeStep s)).undecided d = s.undecided d := by
  rw [dueStep_eq hgap]
  rfl

theorem dueStep_surveySkips (d : Nat) : (dueStep (probeStep s)).surveySkips d = (s.undecided d && s.onDark d) := by
  unfold State.surveySkips
  rw [dueStep_undecided hgap, dueStep_onDark hgap]

theorem dueStep_surveyServes (d : Nat) : (dueStep (probeStep s)).surveyServes d = (s.undecided d && !s.onDark d) := by
  unfold State.surveyServes
  rw [dueStep_undecided hgap, dueStep_onDark hgap]

/-- The survey adds a test of a die it has a use for, off DARK modules, that the due tests have not chosen. -/
theorem dueStep_surveyChooses_iff (d : Nat) : (dueStep (probeStep s)).surveyChooses d = true ↔
    s.undecided d = true ∧ s.onDark d = false ∧ d ∉ s.gapDues := by
  unfold State.surveyChooses
  rw [Bool.and_eq_true, Bool.not_eq_true', chosen_eq_false_iff, dueStep_gapDies hgap, dueStep_surveyServes hgap,
    Bool.and_eq_true, Bool.not_eq_true', List.mem_append, not_or, and_assoc]
  refine and_congr_right' (and_congr_right fun hlit => and_iff_right fun hmem => ?_)
  rw [onDark_of_mem_gapProbes hmem] at hlit
  exact Bool.noConfusion hlit

theorem dueStep_long : (dueStep (probeStep s)).sense.long = s.sense.long := by
  rw [dueStep_eq hgap]
  rfl

/-- A die is left to the patrol when it is present, off DARK modules, without a record and not taken by the survey. -/
theorem surveyed_patrollable_iff (hcanonical : Table.canonical s.map.records = true) (hpresent : RecordsPresent s)
    (turns : List Nat) (stop : Option Nat) (d : Nat) :
    ((dueStep (probeStep s)).surveyed turns stop).patrollable d = true ↔
      s.layout.presentDie d = true ∧ s.onDark d = false ∧ s.recordState d = none ∧ d ∉ s.surveyDies turns := by
  have hdark : ((dueStep (probeStep s)).surveyed turns stop).onDark d = s.onDark d := dueStep_onDark hgap d
  have hlayout : ((dueStep (probeStep s)).surveyed turns stop).layout = s.layout := by
    rw [dueStep_eq hgap]; rfl
  have hrecord : ((dueStep (probeStep s)).surveyed turns stop).recordState d = s.recordState d := by
    rw [dueStep_eq hgap]; rfl
  unfold State.patrollable
  rw [hdark, hlayout, hrecord, Bool.and_eq_true, Bool.and_eq_true, Bool.and_eq_true, Bool.not_eq_true', Bool.not_eq_true',
    Option.isNone_iff_eq_none, chosen_eq_false_iff, surveyed_gapDies, dueStep_gapDies hgap, and_assoc, and_assoc]
  refine and_congr_right' (and_congr_right fun hlit => and_congr_right fun hnone => ?_)
  rw [List.mem_append, List.mem_append, not_or, not_or]
  refine and_iff_right ⟨fun hmem => ?_, fun hmem => ?_⟩
  · rw [onDark_of_mem_gapProbes hmem] at hlit
    exact Bool.noConfusion hlit
  · have hdue := mem_gapDues_record hgap hcanonical hpresent hmem
    rw [hnone] at hdue
    simp at hdue

end FirstSteps

/-! ## What has been chosen -/

section Chosen
variable {s t : State} {turns patrol : List Nat} {stop : Option Nat} (h : ChosenTests s turns stop patrol t)

include h

theorem ChosenTests.gap : t.sense.gap = s.firstEntries.map (fun e => e.served (dueStep (probeStep s)) turns) ++
    (s.surveyDies turns).map (.fresh .survey true) ++ patrol.map (.fresh .patrol false) := by
  rw [h.sense]
  rfl

theorem ChosenTests.diesFor (p : Purpose) : diesFor p t.sense.gap = match p with
    | .probe => s.gapProbes.map Prod.snd
    | .dueTest => s.gapDues
    | .survey => s.surveyDies turns
    | .patrol => patrol := by
  rw [h.gap, diesFor_append, diesFor_append, diesFor_served]
  unfold State.firstEntries
  rw [diesFor_append]
  simp only [diesFor_fresh]
  cases p <;> simp only [reduceCtorEq, if_true, if_false, List.append_nil, List.nil_append]

theorem ChosenTests.length : t.sense.gap.length =
    s.gapProbes.length + s.gapDues.length + (s.surveyDies turns).length + patrol.length := by
  rw [h.gap]
  unfold State.firstEntries
  simp only [List.length_append, List.length_map]

/-- An entry's part of the choice. -/
theorem ChosenTests.cases {e : GapEntry} (he : e ∈ t.sense.gap) :
    (∃ f ∈ s.firstEntries, e = f.served (dueStep (probeStep s)) turns) ∨
    (∃ d ∈ s.surveyDies turns, e = .fresh .survey true d) ∨ ∃ d ∈ patrol, e = .fresh .patrol false d := by
  rw [h.gap, List.mem_append, List.mem_append, List.mem_map, List.mem_map, List.mem_map, or_assoc] at he
  exact he.imp (fun ⟨f, hf, heq⟩ => ⟨f, hf, heq.symm⟩)
    (Or.imp (fun ⟨d, hd, heq⟩ => ⟨d, hd, heq.symm⟩) fun ⟨d, hd, heq⟩ => ⟨d, hd, heq.symm⟩)

omit h in
theorem mem_firstEntries {f : GapEntry} (hf : f ∈ s.firstEntries) :
    (∃ d ∈ s.gapProbes.map Prod.snd, f = .fresh .probe false d) ∨ ∃ d ∈ s.gapDues, f = .fresh .dueTest false d := by
  unfold State.firstEntries at hf
  rw [List.mem_append, List.mem_map, List.mem_map] at hf
  exact hf.imp (fun ⟨d, hd, heq⟩ => ⟨d, hd, heq.symm⟩) fun ⟨d, hd, heq⟩ => ⟨d, hd, heq.symm⟩

theorem ChosenTests.outstanding {e : GapEntry} (he : e ∈ t.sense.gap) : e.outstanding = true := by
  obtain ⟨f, hf, rfl⟩ | ⟨d, -, rfl⟩ | ⟨d, -, rfl⟩ := h.cases he
  · have hfirst : f.outstanding = true := by obtain ⟨d, -, rfl⟩ | ⟨d, -, rfl⟩ := mem_firstEntries hf <;> rfl
    unfold GapEntry.served
    split <;> exact hfirst
  · rfl
  · rfl

variable (hgap : s.sense.gap = []) (hcanonical : Table.canonical s.map.records = true) (hpresent : RecordsPresent s)
include hgap hcanonical hpresent

/-- No die that is pinned is tested (R80). -/
theorem ChosenTests.not_pinned {e : GapEntry} (he : e ∈ t.sense.gap) :
    s.recordState e.die ≠ some .pinnedDead ∧ s.recordState e.die ≠ some .pinnedGood := by
  obtain ⟨f, hf, rfl⟩ | ⟨d, hd, rfl⟩ | ⟨d, hd, rfl⟩ := h.cases he
  · rw [GapEntry.served_die]
    obtain ⟨d, hd, rfl⟩ | ⟨d, hd, rfl⟩ := mem_firstEntries hf
    · obtain ⟨x, hx, rfl⟩ := List.mem_map.mp hd
      obtain ⟨-, -, hfree⟩ := mem_gapProbes_probeable hx
      unfold State.diePinned at hfree
      constructor <;> intro heq <;> rw [show s.recordState x.2 = _ from heq] at hfree <;> exact Bool.noConfusion hfree
    · obtain hrecord | hrecord := mem_gapDues_record hgap hcanonical hpresent hd <;>
      · rw [show s.recordState (GapEntry.fresh .dueTest false d).die = _ from hrecord]
        decide
  · have hchooses := (dueStep_surveyChooses_iff hgap d).mp (List.mem_filter.mp hd).2
    obtain ⟨-, hrecord | hrecord⟩ := undecided_iff.mp hchooses.1 <;>
    · rw [show s.recordState (GapEntry.fresh .survey true d).die = _ from hrecord]
      decide
  · have hfree := (surveyed_patrollable_iff hgap hcanonical hpresent turns stop d).mp (h.patrollable d hd)
    obtain ⟨-, -, hrecord, -⟩ := hfree
    rw [show s.recordState (GapEntry.fresh .patrol false d).die = _ from hrecord]
    decide

/-- A test serves the survey when the survey's turns have reached its die and have a use for it (R93). -/
theorem ChosenTests.serves_iff {e : GapEntry} (he : e ∈ t.sense.gap) :
    e.serves = true ↔ e.die ∈ turns ∧ s.undecided e.die = true ∧ s.onDark e.die = false := by
  have hserves : ∀ d, (dueStep (probeStep s)).surveyServes d = true ↔ s.undecided d = true ∧ s.onDark d = false := fun d => by
    rw [dueStep_surveyServes hgap, Bool.and_eq_true, Bool.not_eq_true']
  obtain ⟨f, hf, rfl⟩ | ⟨d, hd, rfl⟩ | ⟨d, hd, rfl⟩ := h.cases he
  · have hfirst : f.serves = false := by obtain ⟨d, -, rfl⟩ | ⟨d, -, rfl⟩ := mem_firstEntries hf <;> rfl
    rw [GapEntry.served_die, ← hserves]
    unfold GapEntry.served
    split
    · next hin => exact iff_of_true rfl hin
    · next hout => exact iff_of_false (by rw [hfirst]; exact Bool.false_ne_true) hout
  · obtain ⟨hin, hchooses⟩ := List.mem_filter.mp hd
    obtain ⟨hundecided, hlit, -⟩ := (dueStep_surveyChooses_iff hgap d).mp hchooses
    exact iff_of_true rfl ⟨hin, hundecided, hlit⟩
  · have hleft := h.patrollable d hd
    obtain ⟨-, -, hrecord, hout⟩ := (surveyed_patrollable_iff hgap hcanonical hpresent turns stop d).mp hleft
    refine iff_of_false Bool.false_ne_true fun ⟨hin, hundecided, hlit⟩ => hout ?_
    refine List.mem_filter.mpr ⟨hin, (dueStep_surveyChooses_iff hgap d).mpr ⟨hundecided, hlit, fun hdue => ?_⟩⟩
    have hrecord' := mem_gapDues_record hgap hcanonical hpresent hdue
    rw [show s.recordState d = none from hrecord] at hrecord'
    simp at hrecord'

end Chosen

end Sys2Proof.Machine
end


section
/-! PROOFS. PASS_END with no standby waiting (O38): the choice as R79 to R84 and R93 describe it. -/

namespace Sys2Proof.Machine

/-! ## PASS_END into a gap -/

/-- The state as the engine hands it to the choice of a gap's tests (R56 step 4, R79). -/
def State.gapOpened (s : State) : State := numberGap (s.setScan { s.scan with phase := .gap, ports := silentPorts })

section PassEnd
variable {s : State}

theorem endPass_of_gap (hphase : s.scan.phase = .pass) (hlit : s.layout.height ≤ s.scan.rowsLit)
    (hstandby : s.scan.standby = .none) : endPass s = enterGap s := by
  unfold endPass
  rw [if_pos ⟨hphase, hlit⟩, if_neg (not_not.mpr hstandby)]

theorem enterGap_of_active (h : s.scan.display = .active) : enterGap s = sendTests (chooseTests s.gapOpened) := if_pos h

theorem enterGap_of_other (h : s.scan.display ≠ .active) :
    enterGap s = s.setScan { s.scan with phase := .gap, ports := silentPorts } := if_neg h

theorem sendTests_counter_tests (s : State) : (sendTests s).events.counter .tests =
    s.events.counter .tests + BitVec.ofNat 16 s.sense.gap.length := by
  unfold sendTests
  rw [countTimes_eq]
  exact EventUnit.countedTimes_counter_self _ _ _

theorem sendTests_counter_of_ne {c : Counter} (h : c ≠ .tests) (s : State) :
    (sendTests s).events.counter c = s.events.counter c := by
  unfold sendTests
  rw [countTimes_eq]
  exact EventUnit.countedTimes_counter_of_ne h _ _

end PassEnd

theorem FirstOf.congr {α : Type} {rank : α → Nat} {ok ok' : α → Prop} {k : Nat} {l : List α}
    (h : FirstOf rank ok k l) (hok : ∀ a, ok a ↔ ok' a) : FirstOf rank ok' k l := by
  obtain ⟨hascending, hall, hlength, hfull⟩ := h
  exact ⟨hascending, fun a ha => (hok a).mp (hall a ha), hlength, fun a ha => hfull a ((hok a).mpr ha)⟩

theorem onDark_iff {s : State} {d : Nat} : s.onDark d = true ↔ (s.sense.modules[slotOfDie d]).state = .dark := decide_eq_true_iff

theorem onDark_eq_false_iff {s : State} {d : Nat} :
    s.onDark d = false ↔ ¬ (s.sense.modules[slotOfDie d]).state = .dark := decide_eq_false_iff_not

/-! ## Every due die is tested when there is room -/

/-- With no DARK module and no more due records than the budget, every due die is tested (R82). -/
theorem mem_gapDues_of_room {s : State} (hgap : s.sense.gap = []) (hcanonical : Table.canonical s.map.records = true)
    (hpresent : RecordsPresent s) (hlit : ∀ i : Fin 8, (s.sense.modules[i]).state ≠ .dark)
    (hroom : (s.map.records.filter fun e => decide (e.2.state = .suspect ∨ e.2.state = .retest)).length ≤ s.params.b)
    {e : Nat × DefectRecord} (he : e ∈ s.map.records) (hdue : e.2.state = .suspect ∨ e.2.state = .retest) : e.1 ∈ s.gapDues := by
  have hprobes : s.gapProbes = [] := List.eq_nil_iff_forall_not_mem.mpr fun x hx => hlit x.1 (mem_gapProbes hx).1
  obtain ⟨hascending, hall, -, hfull⟩ := gapDues_first hgap hcanonical hpresent
  have hrecord : ∀ e ∈ s.map.records, s.recordState e.1 = some e.2.state := fun e he => by
    unfold State.recordState
    rw [Table.fetch_of_mem hcanonical he]
    rfl
  by_contra hout
  have hok : (s.recordState e.1 = some .suspect ∨ s.recordState e.1 = some .retest) ∧ s.onDark e.1 = false := by
    rw [hrecord e he, Option.some.injEq, Option.some.injEq]
    exact ⟨hdue, onDark_eq_false_iff.mpr (hlit _)⟩
  have hlength := (hfull e.1 hok hout).1
  rw [hprobes, List.length_nil, Nat.sub_zero] at hlength
  set due := s.map.records.filter fun e => decide (e.2.state = .suspect ∨ e.2.state = .retest) with hset
  have hnodup : (e.1 :: s.gapDues).Nodup :=
    List.nodup_cons.mpr ⟨hout, hascending.imp fun hlt heq => by rw [heq] at hlt; exact lt_irrefl _ hlt⟩
  have hmem : ∀ d ∈ e.1 :: s.gapDues, d ∈ Table.keys due := fun d hd => by
    have hdue' : s.recordState d = some .suspect ∨ s.recordState d = some .retest := by
      obtain rfl | hd := List.mem_cons.mp hd
      · exact hok.1
      · exact (hall d hd).1
    unfold State.recordState at hdue'
    cases hfetch : Table.fetch s.map.records d with
    | none => rw [hfetch] at hdue'; simp at hdue'
    | some r =>
      rw [hfetch, Option.map_some, Option.some.injEq, Option.some.injEq] at hdue'
      exact List.mem_map.mpr ⟨(d, r), List.mem_filter.mpr ⟨Table.mem_of_fetch hfetch, decide_eq_true hdue'⟩, rfl⟩
  have hcount := (hnodup.subperm hmem).length_le
  rw [List.length_cons, hlength, Table.keys, List.length_map] at hcount
  omega

/-! ## The survey's turns in a gap -/

theorem getLast?_filter_of_last {p : Nat → Bool} {l : List Nat} {d : Nat} (h : l.getLast? = some d) (hd : p d = true) :
    (l.filter p).getLast? = some d := by
  obtain ⟨front, rfl⟩ := List.getLast?_eq_some_iff.mp h
  rw [filter_append_singleton, if_pos hd, List.getLast?_concat]

/-- Settles O38: the four steps of the choice, each by what it leaves. -/
theorem passEndChoosesTests : Obligations.PassEndChoosesTests := by
  intro s hphase hlit hstandby gapScan l slot dark record probeable undecided inside
  have hend : exec .passEnd s = .next (enterGap s) := congrArg Host.Outcome.next (endPass_of_gap hphase hlit hstandby)
  refine ⟨fun hwaking => ?_, fun hactive hgap hpresent hcanonical => ?_⟩
  · rw [hend, enterGap_of_other (by rw [hwaking]; decide)]
    rfl
  set u := s.gapOpened with hu
  have hempty : u.sense.gap = [] := hgap
  have hrecords : Table.canonical u.map.records = true := hcanonical
  have hnamed : RecordsPresent u := hpresent
  obtain ⟨turns, stop, patrol, h⟩ := chooseTests_chosen hempty
  set c := chooseTests u with hc
  have hdark : ∀ d, u.onDark d = true ↔ dark d := fun d => onDark_iff
  have hlight : ∀ d, u.onDark d = false ↔ ¬ dark d := fun d => onDark_eq_false_iff
  have hundecided : ∀ d, u.undecided d = true ↔ undecided d := fun d => undecided_iff
  have hfits : GapFits c := chooseTests_fits (congrArg (List.map GapEntry.die) hempty) hrecords hnamed
  have hchosenOnly := (chooseTests_acts u).only
  obtain ⟨t, ht⟩ : ∃ t, sendTests c = t := ⟨_, rfl⟩
  have hsense : t.sense = { c.sense with requests := t.sense.requests } := by rw [← ht, sendTests_sense]
  have hgapt : t.sense.gap = c.sense.gap := by rw [hsense]
  have honly : OnlyChanges [.scan, .sense, .events] s t := by
    have hsend := (sendTests_acts c).only
    rw [ht] at hsend
    exact ((setScan_acts s _).only.mono (by decide)).trans (((setSense_acts _ _).only.mono (by decide)).trans
      ((hchosenOnly.mono (by decide)).trans (hsend.mono (by decide))))
  have hscan : t.scan = gapScan := by
    have hsend := (sendTests_acts c).only.scan
    rw [ht] at hsend
    exact hsend.trans hchosenOnly.scan
  refine ⟨t, by rw [hend, enterGap_of_active hactive, ht], hscan, ?_⟩
  intro chosen left1 left2 left3 surveys
  have hchosen : ∀ p, chosen p = diesFor p c.sense.gap := fun p => by
    show diesFor p t.sense.gap = _
    rw [hgapt]
  have hprobes : chosen .probe = u.gapProbes.map Prod.snd := (hchosen _).trans (h.diesFor _)
  have hdues : chosen .dueTest = u.gapDues := (hchosen _).trans (h.diesFor _)
  have hsurvey : chosen .survey = u.surveyDies turns := (hchosen _).trans (h.diesFor _)
  have hpatrol : chosen .patrol = patrol := (hchosen _).trans (h.diesFor _)
  have hlengthP : (chosen .probe).length = u.gapProbes.length := by rw [hprobes, List.length_map]
  have hleft1 : left1 = u.params.b - u.gapProbes.length := congrArg (u.params.b - ·) hlengthP
  have hleft2 : left2 = (dueStep (probeStep u)).budgetLeft := by
    rw [dueStep_budgetLeft hempty, ← hleft1, ← hdues]
  have hleft3 : left3 = ((dueStep (probeStep u)).surveyed turns stop).budgetLeft := by
    rw [surveyed_budgetLeft, ← hleft2]
    exact congrArg (fun x : List Nat => left2 - x.length) hsurvey
  have hsurveys : (dueStep (probeStep u)).surveys ↔ surveys := by
    unfold State.surveys
    rw [dueStep_long hempty, ← hleft2]
    rfl
  have hinside : ∀ d, (dueStep (probeStep u)).inSurvey d ↔ inside d := fun d => by
    unfold State.inSurvey
    rw [dueStep_long hempty]
    exact and_congr_right' (inScope_iff _ _ _ d)
  have hlength := h.length
  have hfit : c.sense.gap.length ≤ s.params.b := by
    have := hfits.length
    rw [State.gapDies, List.length_map, hchosenOnly.params] at this
    exact this
  refine ⟨?number, ?length, ?nodup, ?entries, ?tests, ?requests, ?all, ?probes, ?dues, ?service, ?idle, ?walk, ?patrol,
    honly⟩
  case number => rw [hsense, h.sense]; rfl
  case length => rw [hgapt]; exact hfit
  case nodup => rw [hgapt]; exact hfits.nodup
  case entries =>
    intro e he
    rw [hgapt] at he
    have hlive : s.layout.presentDie e.die = true := by
      have := hfits.present e.die (List.mem_map_of_mem he)
      rwa [hchosenOnly.layout] at this
    obtain ⟨hnotDead, hnotGood⟩ := h.not_pinned hempty hrecords hnamed he
    refine ⟨hlive, h.outstanding he, fun r hr => ?_⟩
    have hrecord : u.recordState e.die = some r.state := congrArg (Option.map DefectRecord.state) hr
    rw [hrecord] at hnotDead hnotGood
    exact ⟨fun heq => hnotDead (congrArg some heq), fun heq => hnotGood (congrArg some heq)⟩
  case tests =>
    rw [← ht, sendTests_counter_tests, h.counter _ (by decide), ht, hgapt]
    rfl
  case requests =>
    intro i
    rw [← ht, sendTests_requests, ht, hgapt]
    rfl
  case all =>
    intro hlight' hroom e he hdue
    have hmem : e.1 ∈ chosen .dueTest := hdues ▸ mem_gapDues_of_room hempty hrecords hnamed hlight' hroom he hdue
    exact (List.filter_sublist.map _).subset hmem
  case probes =>
    have hprobed := probeStep_probed u
    have hmodules : t.sense.modules = (probeStep u).sense.modules := by rw [hsense, h.sense]
    have hprobeable : ∀ i d, u.probeable i d = true ↔ probeable i d := fun i d => by
      simp only [State.probeable, Bool.and_eq_true, decide_eq_true_eq, Bool.not_eq_true', and_assoc]
      rfl
    refine ⟨u.gapProbes.map Prod.fst, ?_, by rw [hlengthP, List.length_map], ?_, fun e he => ?_, fun i hi => ?_⟩
    · have hfirst := gapProbes_first u
      rw [budgetLeft_of_empty hempty] at hfirst
      exact hfirst.congr fun i => and_congr_right' (exists_congr fun d => hprobeable i d)
    · rw [hsense, h.sense, List.getLast?_map]
      rfl
    · have hin : e ∈ u.gapProbes := by
        rw [hprobes, ← List.zip_of_prod rfl rfl] at he
        exact he
      refine ⟨(gapProbes_die_first hin).congr (hprobeable e.1), ?_⟩
      rw [hmodules, hprobed.picked e hin]
      rfl
    · rw [hmodules, hprobed.other i hi]
      rfl
  case dues =>
    rw [hdues, hleft1]
    exact (gapDues_first hempty hrecords hnamed).congr fun d => and_congr_right' (hlight d)
  case service => rw [hsense, h.sense, hdues]; rfl
  case idle =>
    intro hidle
    obtain ⟨hturns, hstop⟩ := h.idle (hidle.imp_left (mt hsurveys.mp))
    refine ⟨?_, ?_, fun e he => ?_⟩
    · rw [hsense, h.sense, hturns, hstop]
      rfl
    · rw [hsurvey, hturns]
      rfl
    · rw [hgapt] at he
      rw [Bool.eq_false_iff, Ne, h.serves_iff hempty hrecords hnamed he, hturns]
      exact fun hserves => List.not_mem_nil hserves.1
  case walk =>
    intro c₀ hruns hcursor took
    obtain ⟨hascending, hmem, hstopped⟩ := h.walk c₀ (hsurveys.mpr hruns) hcursor
    have hstop : t.sense.long.cursor = stop := by rw [hsense, h.sense]
    have htook : ∀ d, d ∈ turns ↔ took d := fun d => by
      rw [hmem]
      simp only [took, hstop, ← hinside]
    have hchooses : ∀ d, d ∈ chosen .survey ↔ took d ∧ undecided d ∧ ¬ dark d ∧ d ∉ chosen .dueTest := fun d => by
      rw [hsurvey, State.surveyDies, List.mem_filter, dueStep_surveyChooses_iff hempty, htook, hundecided, hlight, hdues]
    have hroom : (chosen .survey).length ≤ left2 := by
      have hbudget : left2 = s.params.b - u.gapProbes.length - u.gapDues.length :=
        hleft2.trans (dueStep_budgetLeft hempty)
      rw [hsurvey]
      omega
    refine ⟨?long, ?ascending, hroom, hchooses, fun e he => ?serves, ?skips, fun last hlast => ?stop⟩
    case long => rw [hsense, h.sense]; rfl
    case ascending => rw [hsurvey]; exact hascending.filter _
    case serves =>
      rw [hgapt] at he
      rw [h.serves_iff hempty hrecords hnamed he, htook, hundecided, hlight]
    case skips =>
      refine ⟨turns.filter (dueStep (probeStep u)).surveySkips, (hascending.imp fun hlt => hlt.ne).filter _, fun d => ?_, ?_⟩
      · rw [List.mem_filter, dueStep_surveySkips hempty, Bool.and_eq_true, htook, hundecided, hdark]
      · rw [hsense, h.sense]
        rfl
    case stop =>
      obtain ⟨hscope, hspent, final, hfinal, hfinalChosen, hlt, hbetween⟩ := hstopped last (hstop.symm.trans hlast)
      refine ⟨(hinside last).mp hscope, le_antisymm hroom ?_, final, ?_, hlt, fun d hlow hhigh hd =>
        hbetween d hlow hhigh ((hinside d).mpr hd)⟩
      · rw [List.nil_append, ← hleft3] at hspent
        exact Nat.sub_eq_zero_iff_le.mp hspent
      · rw [hsurvey]
        exact getLast?_filter_of_last hfinal hfinalChosen
  case patrol =>
    intro hstart
    obtain ⟨hfirst, hstop, hcycles⟩ := h.patrol_first hstart
    rw [hpatrol, hleft3, hsurvey]
    refine ⟨hfirst.congr fun d => ?_, ?_, ?_⟩
    · rw [surveyed_patrollable_iff hempty hrecords hnamed, hlight]
      rfl
    · rw [hsense, hstop]
      rfl
    · rw [← ht, sendTests_counter_of_ne (by decide), hcycles]
      refine congrArg₂ (· + ·) rfl (if_congr ?_ rfl rfl)
      rw [patrolWraps_iff]
      constructor
      · rintro ⟨d, hd, rfl | hlow⟩
        · exact .inl hd
        · exact .inr ⟨d, hd, hlow⟩
      · rintro (hlast | ⟨d, hd, hlow⟩)
        · exact ⟨_, hlast, .inl rfl⟩
        · exact ⟨d, hd, .inr hlow⟩

end Sys2Proof.Machine
end
